-- ==== Sys2Proof/Word.lean ====
section
/-! DEFINITION. The word types of the EZ40 (00_scope.md, Conventions): bytes, and 16-bit numbers that wrap. -/

namespace Sys2Proof

/-- One byte of a ring frame, a maintenance frame or the configuration image. -/
abbrev Byte := BitVec 8

/-- A round number, 0..65535, wrapping (R3), or any other 16-bit field that is compared as a number. -/
abbrev Round := BitVec 16

/-- The six strap pins ID0..ID5, read as one number (R156, R157). -/
abbrev Straps := BitVec 6

end Sys2Proof
end

