-- ==== Sys2Proof/Syntax.lean ====
section
/-! DEFINITION. The commands the station takes: one constructor of Instr for each row of spec/opcode_table.json.

A command is one event of the table. Its operands are what the event brings from outside the station (characters on a lane,
converter counts, line levels, a supply level) or, for a close point, the order in which the blocks take the close, which
the spec leaves open (00_scope.md, Block overview). -/

namespace Sys2Proof

/-- The two lanes of the ring (R34): lane 1 runs from W-in to E-out, lane 2 from E-in to W-out. -/
inductive Lane where
  | one
  | two
deriving DecidableEq, Repr

/-- The two busbars, and the isolator of a bay that leads to each. -/
inductive Bus where
  | a
  | b
deriving DecidableEq, Repr

/-- The three zones (00_scope.md). -/
inductive Zone where
  | a
  | b
  | cz
deriving DecidableEq, Repr

/-- The three phases. -/
inductive Phase where
  | a
  | b
  | c
deriving DecidableEq, Repr

/-- The four debounced bay inputs (R26). -/
inductive BayInput where
  | isolatorA
  | isolatorB
  | breaker
  | initiation
deriving DecidableEq, Repr

/-- The levels of the seven bay input lines at a mark (R26); true means the line is active. -/
structure BayLines where
  isa1 : Bool
  isa2 : Bool
  isb1 : Bool
  isb2 : Bool
  cb1 : Bool
  cb2 : Bool
  bfi : Bool
deriving DecidableEq, Repr

/-- The four 16-bit signed counts a scan converts, in the order REF, IA, IB, IC (R20). -/
structure ScanCounts where
  ref : BitVec 16
  ia : BitVec 16
  ib : BitVec 16
  ic : BitVec 16
deriving DecidableEq, Repr

/-- The blocks that act on the close of a row after the Round Table has closed it (R49, R69). -/
inductive CloseBlock where
  | health
  | membership
  | replica
  | zones
  | trip
  | timer
  | controller
deriving DecidableEq, Repr

/-- The order in which the blocks take one close. -/
abbrev CloseOrder := List CloseBlock

/-- The blocks whose order the spec fixes: the replica is formed from the closing records (R95), the zones from the
replica (R120) and the trip decision from the zone states (R139). -/
def CloseBlock.chained : CloseBlock → Bool
  | .membership | .replica | .zones | .trip => true
  | .health | .timer | .controller => false

/-- A close order takes every block once, and the four chained blocks in their order. -/
def CloseOrder.valid (o : CloseOrder) : Bool :=
  o.filter CloseBlock.chained == [.membership, .replica, .zones, .trip] &&
  o.count .health == 1 && o.count .timer == 1 && o.count .controller == 1

/-- The check point at which a link's health changes (R49): a close point, or a local mark with its input levels. -/
inductive CheckPoint where
  | close (order : CloseOrder)
  | localMark (lines : BayLines)
deriving DecidableEq, Repr

/-- The event that brings the second LEAVE report (R48, R167): a transmission that completes, or the LEAVE request
itself when both of its frames are dropped at full queues. -/
inductive LeaveFinish where
  | transmission (lane : Lane)
  | request (chars : List Byte)
deriving DecidableEq, Repr

/-- The 57 rows of spec/opcode_table.json, in the table's order.

`chars` is always the run of well-formed characters that arrived on the line since the receiver's last command: a frame
or request may be delivered whole by one command or in parts by several. -/
inductive Instr where
  /-- POWER_ON (R157): the strap pins, and the lowest supply level of the last 1 ms in mV. -/
  | powerOn (straps : Straps) (millivolts : Nat)
  /-- SUPPLY_RESTORE (R171): the strap pins, and the lowest supply level of the last 1 ms in mV. -/
  | supplyRestore (straps : Straps) (millivolts : Nat)
  /-- CONFIG_READ_END (R159): the bytes the memory returned, and the input levels at the first mark that follows. -/
  | configReadEnd (image : List Byte) (lines : BayLines)
  /-- BARE_MARK (R2). -/
  | bareMark (lines : BayLines)
  /-- LOCAL_MARK (R2). -/
  | localMark (lines : BayLines)
  /-- STABILISE_END (R161): the local mark that is the 64th. -/
  | stabiliseEnd (lines : BayLines)
  /-- START_OF_OWN_NUMBERING (R7): the local mark that ends LISTEN without a capture. -/
  | startOfOwnNumbering (lines : BayLines)
  /-- ROUND_MARK (R3). -/
  | roundMark (lines : BayLines)
  /-- CLOSE_POINT (R4). -/
  | closePoint (order : CloseOrder)
  /-- ENTRY_PRESENT (R79): the close at which this peer entry becomes PRESENT. -/
  | entryPresent (station : Nat) (order : CloseOrder)
  /-- ENTRY_LOST (R80): the close at which this peer entry becomes LOST. -/
  | entryLost (station : Nat) (order : CloseOrder)
  /-- ENDZONE_RELEASE (R101): the close at which this coupler is released. -/
  | endzoneRelease (station : Nat) (order : CloseOrder)
  /-- ISOLATOR_STUCK (R110): the close at which this isolator becomes STUCK. -/
  | isolatorStuck (station : Nat) (bus : Bus) (order : CloseOrder)
  /-- ARMED (R122): the close at which this zone goes from ARMING to ACTIVE. -/
  | armed (zone : Zone) (order : CloseOrder)
  /-- CLEAR (R124): the close at which this zone goes from TRIPPED to ACTIVE. -/
  | clear (zone : Zone) (order : CloseOrder)
  /-- GAPS (R125): the close at which a second incomplete row blocks this zone. -/
  | gaps (zone : Zone) (order : CloseOrder)
  /-- SUPERVISION_LATCH (R130): the close at which this zone's supervision latch is set. -/
  | supervisionLatch (zone : Zone) (order : CloseOrder)
  /-- BF_EXPIRED (R148): the close at which the breaker-failure timer expires. -/
  | bfExpired (order : CloseOrder)
  /-- PROMOTION (R163): the close at which the station enters PRESENT. -/
  | promotion (order : CloseOrder)
  /-- EXCLUSION (R168): the close at which the station enters EXCLUDED. -/
  | exclusion (order : CloseOrder)
  /-- SCAN_COMPLETE (R20). -/
  | scanComplete (counts : ScanCounts)
  /-- ACQ_FAULT (R25): the scan completion that makes the quality INVALID. -/
  | acqFault (counts : ScanCounts)
  /-- ACQ_RESTORED (R25): the scan completion that makes the quality VALID. -/
  | acqRestored (counts : ScanCounts)
  /-- DEBOUNCE_ADOPT (R27): the mark at which this input's debounced value changes. -/
  | debounceAdopt (input : BayInput) (lines : BayLines)
  /-- CONTRIB_RECEIVED (R44). -/
  | contribReceived (lane : Lane) (chars : List Byte)
  /-- LEAVE_RECEIVED (R84). -/
  | leaveReceived (lane : Lane) (chars : List Byte)
  /-- UNKNOWN_LEAD (R38). -/
  | unknownLead (lane : Lane) (char : Byte)
  /-- FRAMING_ERROR (R39): `allSpace` says the malformed character was all-space and the line has returned to mark. -/
  | framingError (lane : Lane) (chars : List Byte) (allSpace : Bool)
  /-- TRUNCATION (R39). -/
  | truncation (lane : Lane) (chars : List Byte)
  /-- LINE_CLEAR_SEEN (R40). -/
  | lineClearSeen (lane : Lane) (chars : List Byte)
  /-- TRANSMISSION_COMPLETE (R46). -/
  | transmissionComplete (lane : Lane)
  /-- LINE_CLEAR_END (R46). -/
  | lineClearEnd (lane : Lane)
  /-- GAP_END (R46). -/
  | gapEnd (lane : Lane)
  /-- LINK_DOWN (R49): the check point at which this in-lane goes DOWN. -/
  | linkDown (lane : Lane) (point : CheckPoint)
  /-- LINK_UP (R49): the check point at which this in-lane comes UP. -/
  | linkUp (lane : Lane) (point : CheckPoint)
  /-- LEAVING_END (R167). -/
  | leavingEnd (finish : LeaveFinish)
  /-- SUPPLY_LOW (R170): the highest supply level of the last 50 µs in mV. -/
  | supplyLow (millivolts : Nat)
  /-- BREAK (R174). -/
  | mlBreak
  /-- RATE_MATCH (R175): the measured interval in ns, and the character as sampled at the nearest listed rate (none: malformed). -/
  | rateMatch (interval : Nat) (sampled : Option Byte)
  /-- ML_FRAMING_ERROR (R176). -/
  | mlFramingError (chars : List Byte)
  /-- LENGTH_ERROR (R176). -/
  | lengthError (chars : List Byte)
  /-- REQUEST_TRUNCATED (R176). -/
  | requestTruncated (chars : List Byte)
  /-- UNKNOWN_KIND (R177). -/
  | unknownKind (chars : List Byte)
  /-- STATUS (R180). -/
  | status (chars : List Byte)
  /-- ROUND (R180). -/
  | round (chars : List Byte)
  /-- EVENTS (R181). -/
  | events (chars : List Byte)
  /-- MEMBERS (R180). -/
  | members (chars : List Byte)
  /-- ACK_TRIP (R146). -/
  | ackTrip (chars : List Byte)
  /-- RELEASE (R183). -/
  | release (chars : List Byte)
  /-- LEAVE (R165). -/
  | leave (chars : List Byte)
  /-- RESTART (R152). -/
  | restart (chars : List Byte)
  /-- RESPONSE_COMPLETE (R178): the strap pins, read if the response issues a COMMANDED RESTART. -/
  | responseComplete (straps : Straps)
  /-- REQUEST_CRC_ERROR (R177). -/
  | requestCrcError (chars : List Byte)
  /-- SKIPPING_END (R176). -/
  | skippingEnd
  /-- MALFORMED_CHARACTER (R38). -/
  | malformedCharacter (lane : Lane)
  /-- RETURN_TO_HUNT (R37). -/
  | returnToHunt (lane : Lane)
  /-- POWER_LOSS (R171). -/
  | powerLoss
deriving DecidableEq, Repr

end Sys2Proof
end

