-- ==== Sys2Proof/WellFormed.lean ====
section
/-! DEFINITION. Which commands can stand for an event of the hardware at all: the checks on their operands. -/

namespace Sys2Proof

/-- How many bytes the read of R158 takes, judged from the first two (R189). -/
def imageReadLength (image : List Byte) : Nat :=
  match image with
  | format :: count :: _ =>
    if format = 0x2E#8 ∧ 1 ≤ count.toNat ∧ count.toNat ≤ 40 then 2 * count.toNat + 48 else 2
  | _ => 2

/-- A run of characters that can belong to one frame or request of at most `n` characters. -/
def charsWithin (n : Nat) (chars : List Byte) : Bool := 1 ≤ chars.length && chars.length ≤ n

/-- The operands of a check point. -/
def CheckPoint.wellFormed : CheckPoint → Bool
  | .close o => o.valid
  | .localMark _ => true

/-- The operands of a command are ones an event of the hardware can have. -/
def Instr.wellFormed : Instr → Bool
  | .powerOn _ _ => true
  | .supplyRestore _ _ => true
  | .configReadEnd image _ => image.length == imageReadLength image
  | .bareMark _ => true
  | .localMark _ => true
  | .stabiliseEnd _ => true
  | .startOfOwnNumbering _ => true
  | .roundMark _ => true
  | .closePoint o => o.valid
  | .entryPresent n o => decide (n < 40) && o.valid
  | .entryLost n o => decide (n < 40) && o.valid
  | .endzoneRelease n o => decide (n < 40) && o.valid
  | .isolatorStuck n _ o => decide (n < 40) && o.valid
  | .armed _ o => o.valid
  | .clear z o => z != .cz && o.valid
  | .gaps _ o => o.valid
  | .supervisionLatch _ o => o.valid
  | .bfExpired o => o.valid
  | .promotion o => o.valid
  | .exclusion o => o.valid
  | .scanComplete _ => true
  | .acqFault _ => true
  | .acqRestored _ => true
  | .debounceAdopt _ _ => true
  | .contribReceived _ chars => charsWithin 24 chars
  | .leaveReceived _ chars => charsWithin 12 chars
  | .unknownLead _ c => c != 0xC4#8 && c != 0xA5#8
  | .framingError _ chars _ => decide (chars.length ≤ 23)
  | .truncation _ chars => decide (chars.length ≤ 23)
  | .lineClearSeen _ chars => decide (chars.length ≤ 23)
  | .transmissionComplete _ => true
  | .lineClearEnd _ => true
  | .gapEnd _ => true
  | .linkDown _ p => p.wellFormed
  | .linkUp _ p => p.wellFormed
  | .leavingEnd (.transmission _) => true
  | .leavingEnd (.request chars) => charsWithin 4 chars
  | .supplyLow _ => true
  | .mlBreak => true
  | .rateMatch _ _ => true
  | .mlFramingError chars => decide (chars.length ≤ 253)
  | .lengthError chars => charsWithin 2 chars
  | .requestTruncated chars => decide (chars.length ≤ 253)
  | .unknownKind chars => charsWithin 254 chars
  | .status chars => charsWithin 254 chars
  | .round chars => charsWithin 254 chars
  | .events chars => charsWithin 254 chars
  | .members chars => charsWithin 254 chars
  | .ackTrip chars => charsWithin 254 chars
  | .release chars => charsWithin 254 chars
  | .leave chars => charsWithin 254 chars
  | .restart chars => charsWithin 254 chars
  | .responseComplete _ => true
  | .requestCrcError chars => charsWithin 254 chars
  | .skippingEnd => true
  | .malformedCharacter _ => true
  | .returnToHunt _ => true
  | .powerLoss => true

end Sys2Proof
end

