-- ==== Sys2Proof/Decode.lean ====
section
/-! DEFINITION. No row of spec/opcode_table.json has bits (98_reader.md: n_rows_with_fixed 0): the station's commands are events,
not words, so no word spells one. -/

namespace Sys2Proof

/-- The command that a word spells by the table's bits: none, since no row of the table gives bits. -/
def decodeTableWord (nbits w : Nat) : Option Instr :=
  match nbits, w with
  | _, _ => none

end Sys2Proof
end

