-- ==== Sys2Proof/Config.lean ====
section
/-! DEFINITION. The configuration in force (R158, R159, 11_formats.md section 11.5) and the free values of the model. -/

namespace Sys2Proof

/-- +1 or −1 (R23, R93). -/
inductive Polarity where
  | plus
  | minus
deriving DecidableEq, Repr

/-- The kind of a bay (R75, R93); only a coupler's polarity is used (R159). -/
inductive BayKind where
  | feeder
  | coupler (polarity : Polarity)
deriving DecidableEq, Repr

/-- One roster entry of the configuration image. -/
structure RosterEntry where
  station : Nat
  kind : BayKind
deriving DecidableEq, Repr

/-- The parameters of a good image, under the names the manual gives them, in the image's order (R159, R189). -/
structure Configuration where
  roster : List RosterEntry
  spc : Nat
  period : Nat
  close : Nat
  linkdly : Nat
  pickup : Nat
  slopeZ : Nat
  slopeC : Nat
  countM : Nat
  incept : Nat
  holdTf : Nat
  supLevel : Nat
  supTime : Nat
  armRounds : Nat
  bfTime : Nat
  bfLevel : Nat
  confirm : Nat
  joinRounds : Nat
  lostRounds : Nat
  linkDownRounds : Nat
  endzoneRounds : Nat
  runLimit : Nat
  debounce : Nat
  tripHold : Nat
  station : Nat
  scaleA : Nat
  scaleB : Nat
  scaleC : Nat
  ctPolarity : Polarity
  supplyLevel : Nat
  refNominal : Int
  refBand : Nat
deriving DecidableEq, Repr

/-- W, the half-cycle window depth (00_scope.md, Terms). -/
def Configuration.w (c : Configuration) : Nat := c.spc / 2

/-- Whether a number is a station number on the roster. -/
def Configuration.onRoster (c : Configuration) (n : Nat) : Bool :=
  c.roster.any (fun e => e.station == n)

/-- FREE VALUE (log entry 11): which of several records that different blocks offer at one instant is taken first. -/
opaque Config.recordOrder : Nat → Nat → Nat

/-- FREE VALUE (log entry 12): which phase SUPERVISION_LATCH names when several phases reach SUP_TIME in one row. -/
opaque Config.latchPhase : Nat → Nat → Nat

/-- FREE VALUE (log entry 13): whether ZONE_STATE says LATCHED (true) or NOT_PRESENT when both block a zone at once. -/
opaque Config.blockedByLatch : Nat → Nat → Bool

/-- FREE VALUE (log entry 14): the age field of an own frame when the Round Timer's answer is negative. -/
opaque Config.negativeAge : Int → BitVec 16

end Sys2Proof
end

