-- ==== Sys2Proof/Machine/State.lean ====
section
/-! DEFINITION. The state of the station: every item the manual gives each of its blocks, as plain data, and its reset value. -/

namespace Sys2Proof.Machine

/-! ## Named values (11_formats.md, section 11.1) -/

/-- A double-bit input value (R26). -/
inductive DoubleBit where
  | intermediate
  | opened
  | closed
  | invalid
deriving DecidableEq, Repr

/-- The reference check's verdict (R25). -/
inductive Quality where
  | valid
  | invalid
deriving DecidableEq, Repr

/-- The sender state a CONTRIB carries (R57). -/
inductive SenderState where
  | joining
  | present
deriving DecidableEq, Repr

/-- The station state (R156). -/
inductive StationState where
  | start
  | configFault
  | stabilise
  | listen
  | joining
  | present
  | leaving
  | out
  | excluded
  | hold
deriving DecidableEq, Repr

/-- The state of a Membership entry (R75). -/
inductive EntryState where
  | unknown
  | joining
  | present
  | lost
  | left
  | refused
deriving DecidableEq, Repr

/-- The state of a zone (R113). -/
inductive ZoneState where
  | inactive
  | blocked
  | arming
  | active
  | tripped
deriving DecidableEq, Repr

/-- The state of the breaker-failure timer (R135). -/
inductive BfTimer where
  | idle
  | running
  | expired
deriving DecidableEq, Repr

/-- The cause of a reset (R157). -/
inductive ResetCause where
  | powerOn
  | supplyRestore
  | commandedRestart
deriving DecidableEq, Repr

/-- The outcome of the configuration check (R159). -/
inductive CheckResult where
  | good
  | format
  | count
  | crc
  | range
  | duplicate
  | couplers
  | notOnRoster
  | strapMismatch
deriving DecidableEq, Repr

/-- The 27 kinds of event record (R184). -/
inductive EventKind where
  | reset
  | configFault
  | stationState
  | entryState
  | zoneState
  | replicaMerge
  | replicaSplit
  | isolatorStuck
  | endzoneRelease
  | endzoneRestore
  | supervisionLatch
  | supervisionRelease
  | tripOn
  | tripOff
  | bfStart
  | bfExpired
  | bfCleared
  | linkDown
  | linkUp
  | isolated
  | copyDisagree
  | identityClash
  | capture
  | recapture
  | acqFault
  | acqRestored
  | supplyHold
deriving DecidableEq, Repr

/-! ## Shared records -/

/-- A subset of {A, B}. -/
structure BusSet where
  a : Bool
  b : Bool
deriving DecidableEq, Repr

/-- A subset of {A, B, CZ}. -/
structure ZoneSet where
  a : Bool
  b : Bool
  cz : Bool
deriving DecidableEq, Repr

/-- One value for each of A-phase, B-phase and C-phase. -/
structure Tri (α : Type) where
  a : α
  b : α
  c : α
deriving DecidableEq, Repr

/-- The states of a bay's three switching devices. -/
structure Positions where
  isoA : DoubleBit
  isoB : DoubleBit
  breaker : DoubleBit
deriving DecidableEq, Repr

/-- Bay status: the three positions and the BF flag (00_scope.md, Terms). -/
structure BayStatus where
  positions : Positions
  bf : Bool
deriving DecidableEq, Repr

/-- The content of a contribution (R57): the fields that copies are compared over. -/
structure Content where
  sender : SenderState
  quality : Quality
  eUp : Bool
  wUp : Bool
  status : BayStatus
  tripped : BusSet
  release : ZoneSet
  /-- The lowest-present number, 0..39, or 0xFF for none. -/
  lowest : Nat
  currents : Tri Int
deriving DecidableEq, Repr

/-! ## Round Timer (R1 to R17) -/

/-- What kind of marks the timer produces (R2). -/
inductive TimerMode where
  | stopped
  | bare
  | localMarks
  | numbered
deriving DecidableEq, Repr

/-- The Round Timer (section 1.1). -/
structure RoundTimer where
  mode : TimerMode
  round : Round
  phase : Nat
  roundLength : Nat
  pendingAdjustment : Option Nat
  captured : Bool
  localCount : Nat
  /-- The instants of the three most recent marks, newest first (R3, R5). -/
  history : List Int
  /-- The round begun by the last capture or recapture, with the instant that stands for its mark (R5). -/
  captureMark : Option (Round × Int)
deriving DecidableEq, Repr

/-! ## Acquisition Unit (R18 to R33) -/

/-- What a scan belongs to (R19, R22). -/
inductive ScanTag where
  | round (k : Round)
  | localMark
  | bare
  | void
deriving DecidableEq, Repr

/-- One debounced input: its steady value, and the candidate with its count (R27). -/
structure Debounce (α : Type) where
  value : α
  candidate : Option (α × Nat)
deriving DecidableEq, Repr

/-- The Acquisition Unit (section 2.1). -/
structure Acquisition where
  /-- The tag of the scan in progress; none is IDLE. -/
  scan : Option ScanTag
  pendingScan : Option ScanTag
  ref : Option Int
  currents : Option (Tri Int)
  quality : Quality
  missRun : Nat
  goodRun : Nat
  isoA : Debounce DoubleBit
  isoB : Debounce DoubleBit
  breaker : Debounce DoubleBit
  /-- true is ACTIVE. -/
  initiation : Debounce Bool
deriving DecidableEq, Repr

/-! ## Ring Interface (R34 to R55) -/

/-- The state of an in-lane's receiver (R37). -/
inductive Receiver where
  | hunt
  /-- A frame of known lead byte is in progress; its characters so far. -/
  | receiving (chars : List Byte)
  /-- The line is at space; whether this run of space has been counted as a line clear (R40). -/
  | waitMark (counted : Bool)
deriving DecidableEq, Repr

/-- Where a queued frame comes from (R45, R47). -/
inductive FrameSource where
  | own
  /-- A forwarded copy, with the µs count at the end of its original's reception. -/
  | copy (receivedAt : Nat)
deriving DecidableEq, Repr

/-- A frame in an out-lane queue. -/
structure QueuedFrame where
  source : FrameSource
  bytes : List Byte
deriving DecidableEq, Repr

/-- The state of an out-lane's transmitter (R46). -/
inductive Transmitter where
  | idle
  | sending
  | clearing
  | gap
deriving DecidableEq, Repr

/-- The eleven counters of a lane (R55). -/
structure LaneCounters where
  goodFrames : Nat
  crcErrors : Nat
  framingErrors : Nat
  truncatedFrames : Nat
  unknownLeads : Nat
  lineClearsSeen : Nat
  ownStripped : Nat
  hopLimit : Nat
  forwarded : Nat
  queueFull : Nat
  transmitted : Nat
deriving DecidableEq, Repr

/-- One lane: its in-lane's receiver and health, its out-lane's queue and transmitter, its counters (R34). -/
structure LaneState where
  receiver : Receiver
  queue : List QueuedFrame
  transmitter : Transmitter
  clearPending : Bool
  up : Bool
  silentRun : Nat
  liveRun : Nat
  /-- A good frame has arrived in the health interval in progress (R41, R49). -/
  goodSeen : Bool
  counters : LaneCounters
deriving DecidableEq, Repr

/-- The Ring Interface. -/
structure Ring where
  one : LaneState
  two : LaneState
deriving DecidableEq, Repr

/-! ## Round Table (R56 to R74) -/

/-- The lane a slot's contribution came on and the lead computed from it (R57). -/
structure SlotCopy where
  lane : Lane
  lead : Int
deriving DecidableEq, Repr

/-- What a slot holds (R57); the own slot has no lane and no lead. -/
inductive SlotBody where
  | empty
  | filled (content : Content) (copy : Option SlotCopy)
  | disputed
deriving DecidableEq, Repr

/-- A slot with its out-of-window mark (R57). -/
structure Slot where
  body : SlotBody
  outOfWindow : Bool
deriving DecidableEq, Repr

/-- A row that holds a round (R56): 40 slots, indexed by station number. -/
structure Row where
  round : Round
  slots : List Slot
  returnedOne : Bool
  returnedTwo : Bool
  conflict : Bool
  clash : Bool
deriving DecidableEq, Repr

/-- The table's seven counters (R74). -/
structure TableCounters where
  offRoster : Nat
  matchedCopies : Nat
  afterDispute : Nat
  ownReturnsMatched : Nat
  ownReturnsLate : Nat
  identityClashes : Nat
  strayOwn : Nat
deriving DecidableEq, Repr

/-- The three rows by their roles; an UNUSED row, which has every slot EMPTY and every flag clear, is none (R56). -/
structure RoundTable where
  openRow : Option Row
  newest : Option Row
  older : Option Row
  settling : Bool
  counters : TableCounters
deriving DecidableEq, Repr

/-! ## Membership Table (R75 to R92) -/

/-- An entry's closing record: its closing state and its row status (R77). -/
structure ClosingRecord where
  state : EntryState
  rowStatus : Option BayStatus
deriving DecidableEq, Repr

/-- One entry (R75). -/
structure Entry where
  station : Nat
  kind : BayKind
  state : EntryState
  joinRun : Nat
  missRun : Nat
  lastKnown : Option BayStatus
  leaveRound : Option Round
  leaveReason : Option Byte
  refusal : Bool
  indefiniteA : Nat
  indefiniteB : Nat
  openRun : Nat
  outOfWindowRun : Nat
  latestLowest : Option Nat
  closing : ClosingRecord
  late : Nat
  outOfWindow : Nat
  disagree : Nat
  stale : Nat
deriving DecidableEq, Repr

/-- The Membership Table. -/
structure Membership where
  entries : List Entry
  discardedLeaves : Nat
deriving DecidableEq, Repr

/-! ## Replica Unit (R93 to R112) -/

/-- A member of a zone with the sign its current takes (R93). -/
structure Member where
  station : Nat
  sign : Polarity
deriving DecidableEq, Repr

/-- A station record of a replica (R93). -/
structure StationRecord where
  station : Nat
  kind : BayKind
  status : Option Positions
  connectedA : Bool
  connectedB : Bool
  stuckA : Bool
  stuckB : Bool
  released : Bool
  counted : Bool
  tripZones : BusSet
deriving DecidableEq, Repr

/-- A replica (R93). -/
structure Replica where
  round : Option Round
  merged : Bool
  records : List StationRecord
  setA : List Member
  setB : List Member
  setCZ : List Member
  stuck : ZoneSet
deriving DecidableEq, Repr

/-- The Replica Unit: the held replica and the one it replaced (R111). -/
structure ReplicaUnit where
  held : Replica
  previous : Replica
deriving DecidableEq, Repr

/-! ## Zone Evaluator (R113 to R134) -/

/-- The record of one phase of one zone (R113). -/
structure PhaseRecord where
  window : List Bool
  markHold : Nat
  /-- true is HIGH. -/
  previousHigh : Bool
  supervisionRun : Nat
  operate : Option Nat
  restraint : Option Nat
  condition : Option Bool
  effectiveCount : Nat
  faulted : Bool
deriving DecidableEq, Repr

/-- The record of one zone (R113). -/
structure ZoneRecord where
  state : ZoneState
  armingCount : Nat
  gapCount : Nat
  clearRun : Nat
  latch : Bool
  phases : Tri PhaseRecord
deriving DecidableEq, Repr

/-- The Zone Evaluator (R113); `merged` is the mode MERGED. -/
structure ZoneEvaluator where
  a : ZoneRecord
  b : ZoneRecord
  cz : ZoneRecord
  merged : Bool
  verdict : BusSet
deriving DecidableEq, Repr

/-! ## Trip Unit (R135 to R155) -/

/-- An entry of the peak history (R137). -/
structure PeakEntry where
  currents : Tri Int
  quality : Quality
deriving DecidableEq, Repr

/-- The Trip Unit (R135). -/
structure TripUnit where
  /-- true is ENERGISED. -/
  energised : Bool
  holdCount : Nat
  latched : Bool
  causeZones : BusSet
  bfSources : List Nat
  confirmersA : Nat
  confirmersB : Nat
  effectiveConfirmation : Nat
  bfTimer : BfTimer
  bfCount : Nat
  bfFlag : Bool
  peakHistory : List PeakEntry
  ownPeak : Nat
deriving DecidableEq, Repr

/-! ## Life-Cycle Controller and Supply Monitor (R156 to R172) -/

/-- The LEAVE frame built on entry to LEAVING (R156). -/
structure LeaveRecord where
  round : Round
  reason : Byte
  positions : Positions
deriving DecidableEq, Repr

/-- The Life-Cycle Controller (R156). -/
structure LifeCycle where
  state : StationState
  strap : Nat
  config : Option Configuration
  checksum : Option Round
  stageCount : Nat
  joinCount : Nat
  conflictCount : Nat
  clashCount : Nat
  pendingRelease : ZoneSet
  leaveRecord : Option LeaveRecord
  leaveReports : Nat
  leaveTransmitted : Nat
  resetCause : ResetCause
  lastCheck : Option CheckResult
deriving DecidableEq, Repr

/-- The Supply Monitor (R169). -/
structure SupplyMonitor where
  ready : Bool
  low : Bool
deriving DecidableEq, Repr

/-! ## Maintenance Link and Event List (R173 to R185) -/

/-- The eight listed rates (R174). -/
inductive Rate where
  | b9600
  | b19200
  | b38400
  | b57600
  | b115200
  | b230400
  | b460800
  | b921600
deriving DecidableEq, Repr

/-- The state of the maintenance receiver with its request buffer (R173, R176). -/
inductive LinkReceiver where
  | idle
  | receiving (buffer : List Byte)
  | skipping
deriving DecidableEq, Repr

/-- What the completion of a response does (R178, R181, R182). -/
inductive OnComplete where
  | nothing
  | removeRecords (m : Nat)
  | restart
deriving DecidableEq, Repr

/-- A response in progress (R178). -/
structure Response where
  bytes : List Byte
  sent : Nat
  builtAt : Nat
  onComplete : OnComplete
deriving DecidableEq, Repr

/-- The link's six counters (R173). -/
structure LinkCounters where
  crcErrors : Nat
  framingErrors : Nat
  truncatedRequests : Nat
  lengthErrors : Nat
  overruns : Nat
  abandonedResponses : Nat
deriving DecidableEq, Repr

/-- The Maintenance Link (R173); the rate state is MATCHED while a rate is held. -/
structure Link where
  rate : Option Rate
  /-- A break has come and its matching character has not (R175). -/
  awaitingMatch : Bool
  receiver : LinkReceiver
  response : Option Response
  counters : LinkCounters
deriving DecidableEq, Repr

/-- An event record (R184); the detail is held as R188 lays it out. -/
structure EventRecord where
  kind : EventKind
  round : Round
  subject : Nat
  detail : List Byte
deriving DecidableEq, Repr

/-- The Event List (R184), oldest record first. -/
structure EventList where
  records : List EventRecord
  lost : Nat
deriving DecidableEq, Repr

/-! ## The whole station -/

/-- The state of the station and the queue of the commands that wait for it. -/
structure State where
  pending : List Instr
  /-- The part has power; false from POWER_LOSS to POWER_ON (log entry 10). -/
  powered : Bool
  /-- The station's µs count (R47, R5). -/
  now : Nat
  timer : RoundTimer
  acquisition : Acquisition
  ring : Ring
  table : RoundTable
  membership : Membership
  replica : ReplicaUnit
  zones : ZoneEvaluator
  trip : TripUnit
  life : LifeCycle
  supply : SupplyMonitor
  link : Link
  events : EventList
  /-- How many free values have been drawn (log entry 11). -/
  freeIndex : Nat
deriving DecidableEq, Repr

/-- No state of the station stops it: the manual names no event after which the station does not go on, so no command
faults (INVENTORY.md, Faults). The type is empty. -/
inductive Fault where
deriving DecidableEq, Repr

/-- The reasons a command is refused. -/
inductive Refusal where
  /-- Raised by `exec` for a command that has no meaning yet: none is left. Safe: the machine stops where the station goes on. -/
  | notModelled (mnemonic : String)
deriving DecidableEq, Repr

/-! ## Reset values -/

/-- The Round Timer after every reset (R16); the round length is PERIOD once the image is loaded (log entry 7). -/
def RoundTimer.initial : RoundTimer :=
  { mode := .stopped, round := 0, phase := 0, roundLength := 0, pendingAdjustment := none, captured := false, localCount := 0,
    history := [], captureMark := none }

/-- The Acquisition Unit after every reset (R18). -/
def Acquisition.initial : Acquisition :=
  { scan := none, pendingScan := none, ref := none, currents := none, quality := .invalid, missRun := 0, goodRun := 0,
    isoA := ⟨.invalid, none⟩, isoB := ⟨.invalid, none⟩, breaker := ⟨.invalid, none⟩, initiation := ⟨false, none⟩ }

/-- A lane's counters after every reset (R54). -/
def LaneCounters.zero : LaneCounters :=
  { goodFrames := 0, crcErrors := 0, framingErrors := 0, truncatedFrames := 0, unknownLeads := 0, lineClearsSeen := 0,
    ownStripped := 0, hopLimit := 0, forwarded := 0, queueFull := 0, transmitted := 0 }

/-- A lane after every reset (R37, R46, R49, R54). -/
def LaneState.initial : LaneState :=
  { receiver := .hunt, queue := [], transmitter := .idle, clearPending := false, up := false, silentRun := 0, liveRun := 0,
    goodSeen := false, counters := LaneCounters.zero }

/-- The Ring Interface after every reset (R54). -/
def Ring.initial : Ring := { one := LaneState.initial, two := LaneState.initial }

/-- The table's counters after every reset (R73). -/
def TableCounters.zero : TableCounters :=
  { offRoster := 0, matchedCopies := 0, afterDispute := 0, ownReturnsMatched := 0, ownReturnsLate := 0, identityClashes := 0,
    strayOwn := 0 }

/-- The Round Table after every reset (R73). -/
def RoundTable.initial : RoundTable :=
  { openRow := none, newest := none, older := none, settling := false, counters := TableCounters.zero }

/-- The Membership Table after every reset (R76). -/
def Membership.initial : Membership := { entries := [], discardedLeaves := 0 }

/-- The initial replica (R94). -/
def Replica.initial : Replica :=
  { round := none, merged := false, records := [], setA := [], setB := [], setCZ := [], stuck := ⟨false, false, false⟩ }

/-- The Replica Unit after every reset (R94). -/
def ReplicaUnit.initial : ReplicaUnit := { held := Replica.initial, previous := Replica.initial }

/-- A phase record after every reset (R114); the effective count is COUNT_M once the image is loaded (log entry 7). -/
def PhaseRecord.initial : PhaseRecord :=
  { window := [], markHold := 0, previousHigh := false, supervisionRun := 0, operate := none, restraint := none,
    condition := none, effectiveCount := 0, faulted := false }

/-- A zone record after every reset (R114). -/
def ZoneRecord.initial : ZoneRecord :=
  { state := .inactive, armingCount := 0, gapCount := 0, clearRun := 0, latch := false,
    phases := ⟨PhaseRecord.initial, PhaseRecord.initial, PhaseRecord.initial⟩ }

/-- The Zone Evaluator after every reset (R114). -/
def ZoneEvaluator.initial : ZoneEvaluator :=
  { a := ZoneRecord.initial, b := ZoneRecord.initial, cz := ZoneRecord.initial, merged := false, verdict := ⟨false, false⟩ }

/-- The Trip Unit after every reset (R136). -/
def TripUnit.initial : TripUnit :=
  { energised := false, holdCount := 0, latched := false, causeZones := ⟨false, false⟩, bfSources := [], confirmersA := 0,
    confirmersB := 0, effectiveConfirmation := 0, bfTimer := .idle, bfCount := 0, bfFlag := false, peakHistory := [],
    ownPeak := 0 }

/-- The Life-Cycle Controller after a reset of this cause, with this strap number (R157). -/
def LifeCycle.initial (cause : ResetCause) (strap : Nat) : LifeCycle :=
  { state := .start, strap := strap, config := none, checksum := none, stageCount := 0, joinCount := 0, conflictCount := 0,
    clashCount := 0, pendingRelease := ⟨false, false, false⟩, leaveRecord := none, leaveReports := 0, leaveTransmitted := 0,
    resetCause := cause, lastCheck := none }

/-- The Supply Monitor after every reset (R169). -/
def SupplyMonitor.initial : SupplyMonitor := { ready := false, low := false }

/-- The link's counters after every reset (R173). -/
def LinkCounters.zero : LinkCounters :=
  { crcErrors := 0, framingErrors := 0, truncatedRequests := 0, lengthErrors := 0, overruns := 0, abandonedResponses := 0 }

/-- The Maintenance Link after every reset (R173). -/
def Link.initial : Link :=
  { rate := none, awaitingMatch := false, receiver := .idle, response := none,
    counters := LinkCounters.zero }

/-- The station right after a POWER-ON reset, its strap pins all read 0 (log entry 6): the Event List holds the RESET
record alone (R157, R185), and the read of the configuration image is in progress (R158). -/
def State.reset : State :=
  { pending := [], powered := true, now := 0, timer := RoundTimer.initial, acquisition := Acquisition.initial,
    ring := Ring.initial, table := RoundTable.initial, membership := Membership.initial, replica := ReplicaUnit.initial,
    zones := ZoneEvaluator.initial, trip := TripUnit.initial, life := LifeCycle.initial .powerOn 0,
    supply := SupplyMonitor.initial, link := Link.initial,
    events := { records := [{ kind := .reset, round := 0, subject := 0, detail := [1#8] }], lost := 0 }, freeIndex := 0 }

end Sys2Proof.Machine
end

