-- ==== Sys2Proof/Machine/Flags.lean ====
section
/-! DEFINITION. Saturating counts, flag bits, sets of zones, and the value codes of 11_formats.md section 11.1. -/

namespace Sys2Proof.Machine

/-- A count that stops at `cap` (R55, R74, R92, R173, R184). -/
def bump (cap n : Nat) : Nat := if n < cap then n + 1 else n

/-- A 16-bit counter, 0..65535, that stops at 65535. -/
def bump16 (n : Nat) : Nat := bump 65535 n

/-- A counter of a Membership entry, 0..255 (R92). -/
def bump8 (n : Nat) : Nat := bump 255 n

/-- A flag as the bit of this weight. -/
def bit (weight : Nat) (b : Bool) : Nat := if b then weight else 0

/-! ## Sets of zones -/

/-- The empty subset of {A, B}. -/
def BusSet.empty : BusSet := ⟨false, false⟩

/-- Whether a subset of {A, B} holds nothing. -/
def BusSet.isEmpty (s : BusSet) : Bool := !s.a && !s.b

/-- Two subsets of {A, B} have a zone in common (R142). -/
def BusSet.meets (s t : BusSet) : Bool := (s.a && t.a) || (s.b && t.b)

/-- Membership of a busbar zone. -/
def BusSet.has (s : BusSet) : Bus → Bool
  | .a => s.a
  | .b => s.b

/-- A zone set as a byte (section 11.1). -/
def BusSet.code (s : BusSet) : Nat := bit 1 s.a + bit 2 s.b

/-- The empty zone set. -/
def ZoneSet.empty : ZoneSet := ⟨false, false, false⟩

/-- Whether a zone set holds nothing. -/
def ZoneSet.isEmpty (s : ZoneSet) : Bool := !s.a && !s.b && !s.cz

/-- Membership of a zone. -/
def ZoneSet.has (s : ZoneSet) : Zone → Bool
  | .a => s.a
  | .b => s.b
  | .cz => s.cz

/-- Union of zone sets. -/
def ZoneSet.union (s t : ZoneSet) : ZoneSet := ⟨s.a || t.a, s.b || t.b, s.cz || t.cz⟩

/-- A zone set as a byte (section 11.1). -/
def ZoneSet.code (s : ZoneSet) : Nat := bit 1 s.a + bit 2 s.b + bit 4 s.cz

/-! ## Triples -/

/-- One value for every phase. -/
def Tri.map {α β : Type} (f : α → β) (t : Tri α) : Tri β := ⟨f t.a, f t.b, f t.c⟩

/-- The value of a phase. -/
def Tri.get {α : Type} (t : Tri α) : Phase → α
  | .a => t.a
  | .b => t.b
  | .c => t.c

/-- Whether some phase satisfies a test. -/
def Tri.any {α : Type} (p : α → Bool) (t : Tri α) : Bool := p t.a || p t.b || p t.c

/-- Whether every phase satisfies a test. -/
def Tri.all {α : Type} (p : α → Bool) (t : Tri α) : Bool := p t.a && p t.b && p t.c

/-- The phases that satisfy a test, in the order A, B, C. -/
def Tri.which {α : Type} (p : α → Bool) (t : Tri α) : List Phase :=
  (if p t.a then [Phase.a] else []) ++ (if p t.b then [Phase.b] else []) ++ (if p t.c then [Phase.c] else [])

/-! ## Value codes -/

/-- Double-bit value codes. -/
def DoubleBit.code : DoubleBit → Nat
  | .intermediate => 0
  | .opened => 1
  | .closed => 2
  | .invalid => 3

/-- A double-bit code read back; only the two low bits count. -/
def DoubleBit.ofCode (n : Nat) : DoubleBit :=
  match n % 4 with
  | 0 => .intermediate
  | 1 => .opened
  | 2 => .closed
  | _ => .invalid

/-- Zone codes. -/
def zoneCode : Zone → Nat
  | .a => 0
  | .b => 1
  | .cz => 2

/-- Phase codes. -/
def phaseCode : Phase → Nat
  | .a => 0
  | .b => 1
  | .c => 2

/-- Lane numbers. -/
def laneCode : Lane → Nat
  | .one => 1
  | .two => 2

/-- Isolator codes of ISOLATOR_STUCK. -/
def busCode : Bus → Nat
  | .a => 0
  | .b => 1

/-- Station state codes. -/
def StationState.code : StationState → Nat
  | .start => 0
  | .configFault => 1
  | .stabilise => 2
  | .listen => 3
  | .joining => 4
  | .present => 5
  | .leaving => 6
  | .out => 7
  | .excluded => 8
  | .hold => 9

/-- Entry state codes. -/
def EntryState.code : EntryState → Nat
  | .unknown => 0
  | .joining => 1
  | .present => 2
  | .lost => 3
  | .left => 4
  | .refused => 5

/-- Zone state codes. -/
def ZoneState.code : ZoneState → Nat
  | .inactive => 0
  | .blocked => 1
  | .arming => 2
  | .active => 3
  | .tripped => 4

/-- BF timer codes. -/
def BfTimer.code : BfTimer → Nat
  | .idle => 0
  | .running => 1
  | .expired => 2

/-- Reset cause codes. -/
def ResetCause.code : ResetCause → Nat
  | .powerOn => 1
  | .supplyRestore => 2
  | .commandedRestart => 3

/-- Check result codes. -/
def CheckResult.code : CheckResult → Nat
  | .good => 0
  | .format => 1
  | .count => 2
  | .crc => 3
  | .range => 4
  | .duplicate => 5
  | .couplers => 6
  | .notOnRoster => 7
  | .strapMismatch => 8

/-- Event kind codes (section 11.4). -/
def EventKind.code : EventKind → Nat
  | .reset => 1
  | .configFault => 2
  | .stationState => 3
  | .entryState => 4
  | .zoneState => 5
  | .replicaMerge => 6
  | .replicaSplit => 7
  | .isolatorStuck => 8
  | .endzoneRelease => 9
  | .endzoneRestore => 10
  | .supervisionLatch => 11
  | .supervisionRelease => 12
  | .tripOn => 13
  | .tripOff => 14
  | .bfStart => 15
  | .bfExpired => 16
  | .bfCleared => 17
  | .linkDown => 18
  | .linkUp => 19
  | .isolated => 20
  | .copyDisagree => 21
  | .identityClash => 22
  | .capture => 23
  | .recapture => 24
  | .acqFault => 25
  | .acqRestored => 26
  | .supplyHold => 27

/-- Why a station state changed (R172). -/
inductive StationReason where
  | imageGood
  | settled
  | captured
  | alone
  | promoted
  | clash
  | conflict
  | commanded
  | leaveSent
deriving DecidableEq, Repr

/-- STATION_STATE reason codes. -/
def StationReason.code : StationReason → Nat
  | .imageGood => 1
  | .settled => 2
  | .captured => 3
  | .alone => 4
  | .promoted => 5
  | .clash => 6
  | .conflict => 7
  | .commanded => 8
  | .leaveSent => 9

/-- Which step set a zone's final state (R126), with what the detail adds. -/
inductive ZoneReason where
  | empty
  | notPresent (member : Nat)
  | latched
  | complete
  | armed
  | fault (phase : Phase)
  | clear
  | gaps
  | merge
  | split
  | recapture
deriving DecidableEq, Repr

/-- ZONE_STATE reason codes. -/
def ZoneReason.code : ZoneReason → Nat
  | .empty => 1
  | .notPresent _ => 2
  | .latched => 3
  | .complete => 4
  | .armed => 5
  | .fault _ => 6
  | .clear => 7
  | .gaps => 8
  | .merge => 9
  | .split => 10
  | .recapture => 11

/-- LEAVE reason codes (R187). -/
def leaveCommanded : Byte := 1#8

/-- LEAVE reason SUPPLY. -/
def leaveSupply : Byte := 2#8

/-- The field value for "nothing to name" (section 11.1). -/
def noNumber : Nat := 0xFF

/-! ## Round numbers -/

/-- Round r lies after the LEAVE round l (R61): r − l modulo 65536 is in 1..32767. -/
def roundAfter (r l : Round) : Bool :=
  let d := (r - l).toNat
  decide (1 ≤ d) && decide (d ≤ 32767)

end Sys2Proof.Machine
end

