-- ==== Sys2Proof/Machine/Operands.lean ====
section
/-! DEFINITION. The forms in which values cross the station's boundary: byte order, the CRC of R41, the two ring frames (R186,
R187), the bay input lines (R26) and the scan's currents (R23). -/

namespace Sys2Proof.Machine

/-! ## Byte order: high byte first -/

/-- One byte of a number. -/
def byte (n : Nat) : Byte := BitVec.ofNat 8 n

/-- Two bytes, high byte first. -/
def bytes2 (n : Nat) : List Byte := [byte (n / 256), byte n]

/-- Three bytes, high byte first. -/
def bytes3 (n : Nat) : List Byte := [byte (n / 65536), byte (n / 256), byte n]

/-- Four bytes, high byte first. -/
def bytes4 (n : Nat) : List Byte := [byte (n / 16777216), byte (n / 65536), byte (n / 256), byte n]

/-- A signed number in 24-bit two's complement. -/
def signed24 (i : Int) : List Byte := bytes3 (BitVec.ofInt 24 i).toNat

/-- A signed number in 16-bit two's complement. -/
def signed16 (i : Int) : List Byte := bytes2 (BitVec.ofInt 16 i).toNat

/-- The byte at an offset, as a number. -/
def u8 (bs : List Byte) (i : Nat) : Nat := (bs.getD i 0).toNat

/-- The two bytes at an offset, as a number. -/
def u16 (bs : List Byte) (i : Nat) : Nat := u8 bs i * 256 + u8 bs (i + 1)

/-- The three bytes at an offset, as a number. -/
def u24 (bs : List Byte) (i : Nat) : Nat := u8 bs i * 65536 + u8 bs (i + 1) * 256 + u8 bs (i + 2)

/-- A bit of a number. -/
def bitAt (n i : Nat) : Bool := (n / 2 ^ i) % 2 == 1

/-- The bitmap of a set of station numbers, five bytes (section 11.1). -/
def stationBitmap (p : Nat → Bool) : List Byte :=
  (List.range 5).map fun j =>
    byte (bit 1 (p (8 * j)) + bit 2 (p (8 * j + 1)) + bit 4 (p (8 * j + 2)) + bit 8 (p (8 * j + 3)) + bit 16 (p (8 * j + 4)) +
      bit 32 (p (8 * j + 5)) + bit 64 (p (8 * j + 6)) + bit 128 (p (8 * j + 7)))

/-! ## CRC-16 (R41) -/

/-- One bit of the CRC register's shift: generator x^16 + x^12 + x^5 + 1. -/
def crcShift (c : Round) : Round := if c.msb then (c <<< 1) ^^^ 0x1021#16 else c <<< 1

/-- One byte, most significant bit first. -/
def crcByte (c : Round) (b : Byte) : Round :=
  crcShift (crcShift (crcShift (crcShift (crcShift (crcShift (crcShift (crcShift (c ^^^ (b.setWidth 16 <<< 8)))))))))

/-- The CRC of R41: the register starts at 0xFFFF, and there is no final inversion. -/
def crc16 (bs : List Byte) : Round := bs.foldl crcByte 0xFFFF#16

/-- The two CRC bytes of a run of bytes, high byte first. -/
def crcBytes (bs : List Byte) : List Byte := bytes2 (crc16 bs).toNat

/-- The last two bytes carry the CRC of the bytes before them (R41, R177). -/
def crcGood (bs : List Byte) : Bool :=
  crc16 (bs.take (bs.length - 2)) == BitVec.ofNat 16 (u16 bs (bs.length - 2))

/-! ## Ring frames (section 11.2) -/

/-- The lead byte of a CONTRIB (R38). -/
def leadContrib : Byte := 0xC4#8

/-- The lead byte of a LEAVE (R38). -/
def leadLeave : Byte := 0xA5#8

/-- How many characters a frame with this lead byte has (R38); none for an unknown lead. -/
def frameLength (lead : Byte) : Option Nat :=
  if lead = leadContrib then some 24 else if lead = leadLeave then some 12 else none

/-- The line time of a frame on the link it arrived by, in µs (R47). -/
def lineTime (bs : List Byte) : Nat := if bs.getD 0 0 = leadContrib then 5 else 3

/-- Bytes 7 of a CONTRIB. -/
def Content.flagByte (c : Content) : Nat :=
  bit 1 (c.sender == .present) + bit 2 (c.quality == .invalid) + bit 4 c.eUp + bit 8 c.wUp

/-- The three positions in bits 0 to 5. -/
def Positions.code (p : Positions) : Nat := p.isoA.code + 4 * p.isoB.code + 16 * p.breaker.code

/-- The three positions read from bits 0 to 5. -/
def Positions.ofCode (n : Nat) : Positions :=
  { isoA := DoubleBit.ofCode n, isoB := DoubleBit.ofCode (n / 4), breaker := DoubleBit.ofCode (n / 16) }

/-- Bytes 7 to 19 of a CONTRIB. -/
def Content.bytes (c : Content) : List Byte :=
  [byte c.flagByte, byte (c.status.positions.code + bit 64 c.status.bf), byte (c.tripped.code + 4 * c.release.code),
    byte c.lowest] ++ signed24 c.currents.a ++ signed24 c.currents.b ++ signed24 c.currents.c

/-- A lowest-present field as it is read (R186): 40..254 is read as 0xFF. -/
def readLowest (n : Nat) : Nat := if n < 40 then n else 0xFF

/-- A current field as it is read (R186): −8 388 608 is read as −8 388 607. -/
def readCurrent (n : Nat) : Int :=
  let i := (BitVec.ofNat 24 n).toInt
  if i = -8388608 then -8388607 else i

/-- The content fields of a CONTRIB as they are read (R186). -/
def readContent (bs : List Byte) : Content :=
  { sender := if bitAt (u8 bs 7) 0 then .present else .joining
    quality := if bitAt (u8 bs 7) 1 then .invalid else .valid
    eUp := bitAt (u8 bs 7) 2
    wUp := bitAt (u8 bs 7) 3
    status := { positions := Positions.ofCode (u8 bs 8), bf := bitAt (u8 bs 8) 6 }
    tripped := ⟨bitAt (u8 bs 9) 0, bitAt (u8 bs 9) 1⟩
    release := ⟨bitAt (u8 bs 9) 2, bitAt (u8 bs 9) 3, bitAt (u8 bs 9) 4⟩
    lowest := readLowest (u8 bs 10)
    currents := ⟨readCurrent (u24 bs 11), readCurrent (u24 bs 14), readCurrent (u24 bs 17)⟩ }

/-- A CONTRIB as the blocks receive it (R44, R186). -/
structure Contrib where
  origin : Nat
  round : Round
  age : Nat
  hops : Nat
  content : Content
  checksum : Round
deriving DecidableEq, Repr

/-- The fields of a CONTRIB as they are read (R186). -/
def readContrib (bs : List Byte) : Contrib :=
  { origin := u8 bs 1, round := BitVec.ofNat 16 (u16 bs 2), age := u16 bs 4, hops := u8 bs 6, content := readContent bs,
    checksum := BitVec.ofNat 16 (u16 bs 20) }

/-- An own CONTRIB as it is built, age and hops still 0 and the CRC still to be computed (R58, R47). -/
def contribBytes (origin : Nat) (round : Round) (c : Content) (checksum : Round) : List Byte :=
  [leadContrib, byte origin] ++ bytes2 round.toNat ++ [0, 0, 0] ++ c.bytes ++ bytes2 checksum.toNat ++ [0, 0]

/-- A LEAVE as the blocks receive it (R44, R187). -/
structure LeaveFrame where
  origin : Nat
  round : Round
  age : Nat
  hops : Nat
  reason : Byte
  positions : Positions
  check : Byte
deriving DecidableEq, Repr

/-- The fields of a LEAVE as they are read (R187). -/
def readLeave (bs : List Byte) : LeaveFrame :=
  { origin := u8 bs 1, round := BitVec.ofNat 16 (u16 bs 2), age := u16 bs 4, hops := u8 bs 6, reason := bs.getD 7 0,
    positions := Positions.ofCode (u8 bs 8), check := bs.getD 9 0 }

/-- An own LEAVE as it is built, age and hops still 0 and the CRC still to be computed (R166, R187). -/
def leaveBytes (origin : Nat) (round : Round) (reason : Byte) (p : Positions) (checksum : Round) : List Byte :=
  [leadLeave, byte origin] ++ bytes2 round.toNat ++ [0, 0, 0, reason, byte p.code, byte checksum.toNat, 0, 0]

/-- The origin field of a frame of either kind. -/
def frameOrigin (bs : List Byte) : Nat := u8 bs 1

/-- The round field of a frame of either kind. -/
def frameRound (bs : List Byte) : Round := BitVec.ofNat 16 (u16 bs 2)

/-- The age field of a frame of either kind. -/
def frameAge (bs : List Byte) : Nat := u16 bs 4

/-- The hops field of a frame of either kind. -/
def frameHops (bs : List Byte) : Nat := u8 bs 6

/-- A frame with its hops field set (R43). -/
def setHops (bs : List Byte) (h : Nat) : List Byte := bs.set 6 (byte h)

/-- A frame with its age field set and its CRC computed afresh over the updated bytes (R47). -/
def setAge (bs : List Byte) (age : Nat) : List Byte :=
  let updated := (bs.set 4 (byte (age / 256))).set 5 (byte age)
  let body := updated.take (updated.length - 2)
  body ++ crcBytes body

/-! ## Bay inputs (R26) -/

/-- The value of a double-bit pair, the line ending in 1 first. -/
def pairValue : Bool → Bool → DoubleBit
  | false, true => .opened
  | true, false => .closed
  | false, false => .intermediate
  | true, true => .invalid

/-- The positions that the six device lines show. -/
def linePositions (l : BayLines) : Positions :=
  { isoA := pairValue l.isa1 l.isa2, isoB := pairValue l.isb1 l.isb2, breaker := pairValue l.cb1 l.cb2 }

/-! ## Scaling (R23) -/

/-- The largest current, in A. -/
def currentLimit : Int := 8388607

/-- +1 or −1 as a number. -/
def polaritySign : Polarity → Int
  | .plus => 1
  | .minus => -1

/-- A count in amperes primary: times the scale, divided by 16 toward zero, times the polarity, clamped. -/
def scaleCount (scale : Nat) (p : Polarity) (count : Int) : Int :=
  max (-currentLimit) (min currentLimit (Int.tdiv (count * scale) 16 * polaritySign p))

end Sys2Proof.Machine
end

