-- ==== Sys2Proof/Machine/Ops.lean ====
section
/-! DEFINITION. The shared operations on the station: reading its parts, letting time pass, offering event records, the out-lanes,
and the change of station state with what the blocks do at its instant. -/

namespace Sys2Proof.Machine

/-! ## The outcome of a command -/

/-- A command acts while the part has power; without power nothing but a POWER-ON reset happens (R157, log entry 10). -/
def live (s : State) (f : State → State) : Host.Outcome State Fault Refusal := .next (if s.powered then f s else s)

/-! ## Reading the station -/

/-- The own number: the configured STATION, or the strap number while no configuration is in force (R42, R51). -/
def State.ownNumber (s : State) : Nat :=
  match s.life.config with
  | some c => c.station
  | none => s.life.strap

/-- JOINING, PRESENT or LEAVING: the states in which own-numbered frames reach the Round Table (R42). -/
def StationState.working : StationState → Bool
  | .joining | .present | .leaving => true
  | _ => false

/-- JOINING or PRESENT: the states in which the station originates contributions (R52, R58). -/
def StationState.contributing : StationState → Bool
  | .joining | .present => true
  | _ => false

/-- A lane of the ring. -/
def Ring.lane (r : Ring) : Lane → LaneState
  | .one => r.one
  | .two => r.two

/-- A lane of the ring changed. -/
def Ring.setLane (r : Ring) : Lane → LaneState → Ring
  | .one, l => { r with one := l }
  | .two, l => { r with two := l }

/-- A lane of the station. -/
def State.lane (s : State) (l : Lane) : LaneState := s.ring.lane l

/-- A lane of the station changed. -/
def State.setLane (s : State) (l : Lane) (x : LaneState) : State := { s with ring := s.ring.setLane l x }

/-- The lane on which the partner out-lane of an in-lane lies (R34). -/
def partner : Lane → Lane
  | .one => .two
  | .two => .one

/-- The entry of a station number. -/
def State.entry (s : State) (n : Nat) : Option Entry := s.membership.entries.find? (fun e => e.station == n)

/-- The entries of a station number changed. -/
def State.mapEntry (s : State) (n : Nat) (f : Entry → Entry) : State :=
  { s with membership := { s.membership with
      entries := s.membership.entries.map (fun e => if e.station == n then f e else e) } }

/-- The lowest-present number (R90): the smallest station number among the entries now PRESENT, 0xFF when there is none. -/
def State.lowestPresent (s : State) : Nat :=
  ((List.range 40).find? (fun n => s.membership.entries.any (fun e => e.station == n && e.state == .present))).getD noNumber

/-- The body of a station number's slot in a row. -/
def Row.body (r : Row) (n : Nat) : SlotBody :=
  match r.slots[n]? with
  | some x => x.body
  | none => .empty

/-- The content of a station number's slot, if it is FILLED. -/
def Row.content (r : Row) (n : Nat) : Option Content :=
  match r.body n with
  | .filled c _ => some c
  | _ => none

/-- The out-of-window mark of a station number's slot. -/
def Row.mark (r : Row) (n : Nat) : Bool :=
  match r.slots[n]? with
  | some x => x.outOfWindow
  | none => false

/-- A slot of a row given a body; its out-of-window mark keeps its value (R64). -/
def Row.setBody (r : Row) (n : Nat) (b : SlotBody) : Row :=
  { r with slots := r.slots.modify n (fun x => { x with body := b }) }

/-- A slot of a row marked out of window (R62). -/
def Row.setMark (r : Row) (n : Nat) : Row :=
  { r with slots := r.slots.modify n (fun x => { x with outOfWindow := true }) }

/-- A row just opened: all 40 slots EMPTY, every mark and flag clear (R56, R70). -/
def Row.fresh (k : Round) : Row :=
  { round := k, slots := List.replicate 40 { body := .empty, outOfWindow := false }, returnedOne := false,
    returnedTwo := false, conflict := false, clash := false }

/-! ## Event records (R184) -/

/-- A record joins the tail; with 64 held it is counted as lost instead. -/
def EventList.offer (e : EventList) (r : EventRecord) : EventList :=
  if e.records.length < 64 then { e with records := e.records ++ [r] } else { e with lost := bump16 e.lost }

/-- A record before it is offered: its kind, subject and detail. -/
structure Draft where
  kind : EventKind
  subject : Nat
  detail : List Byte
deriving DecidableEq, Repr

/-- A record is offered with the Round Timer's round number at that instant (R17). -/
def State.offer (s : State) (d : Draft) : State :=
  { s with events := s.events.offer { kind := d.kind, round := s.timer.round, subject := d.subject, detail := d.detail } }

/-- Records of one block, in its order. -/
def State.offerAll (s : State) (ds : List Draft) : State := ds.foldl State.offer s

/-- One of the orders of a list, picked by a choice of positions. -/
def anyOrder {α : Type} (choice : Nat → Nat) : List α → List α
  | [] => []
  | x :: xs => (anyOrder choice xs).insertIdx (choice xs.length % (xs.length + 1)) x

/-- Records that several blocks offer at one instant may be taken in either order (R184), and so may one block's where no rule
orders them: the groups join the tail in an order that is a free value (log entry 11). A single group needs none. -/
def State.offerGroups (s : State) (groups : List (List Draft)) : State :=
  match groups.filter (fun g => !g.isEmpty) with
  | [] => s
  | [g] => s.offerAll g
  | gs => { (s.offerAll (anyOrder (Config.recordOrder s.freeIndex) gs).flatten) with freeIndex := s.freeIndex + 1 }

/-! ## Time -/

/-- The number of symbols a second of a listed rate (R174). -/
def Rate.baud : Rate → Nat
  | .b9600 => 9600
  | .b19200 => 19200
  | .b38400 => 38400
  | .b57600 => 57600
  | .b115200 => 115200
  | .b230400 => 230400
  | .b460800 => 460800
  | .b921600 => 921600

/-- How many characters of a response have been sent after so many µs: one character time of turnaround, then one
character of 10 symbols after another (R178). -/
def charsSent (rate : Rate) (elapsed length : Nat) : Nat := min length (elapsed * rate.baud / 10000000 - 1)

/-- The response in progress, brought up to the µs count `now`. -/
def Link.atTime (l : Link) (now : Nat) : Link :=
  match l.rate, l.response with
  | some rate, some r => { l with response := some { r with sent := charsSent rate (now - r.builtAt) r.bytes.length } }
  | _, _ => l

/-- Microseconds pass: the µs count and, unless the timer is STOPPED, the phase go on (R2). -/
def State.elapse (s : State) (d : Nat) : State :=
  { s with
    now := s.now + d
    timer := { s.timer with phase := if s.timer.mode = .stopped then s.timer.phase else s.timer.phase + d }
    link := s.link.atTime (s.now + d) }

/-- The phase at which the next mark falls (R2, R3); none in STOPPED. -/
def State.markPhase (s : State) : Option Nat :=
  match s.timer.mode with
  | .stopped => none
  | .bare => some 1000
  | .localMarks => s.life.config.map Configuration.period
  | .numbered => some s.timer.roundLength

/-- The close point of the round in progress is still to come (R4): the captured-round flag is clear and the open row is
this round's row. -/
def State.closeAhead (s : State) : Bool :=
  s.timer.mode == .numbered && !s.timer.captured &&
  match s.table.openRow with
  | some r => r.round == s.timer.round
  | none => false

/-- The phase of the close point; none while no configuration is in force. -/
def State.closePhase (s : State) : Option Nat := s.life.config.map Configuration.close

/-! ## Elapsed-time queries (R5) -/

/-- The instant that stands for the mark of round n: its own mark while the history holds it, or the instant that
stands for the mark of a captured round. -/
def RoundTimer.markOf (t : RoundTimer) (n : Round) : Option Int :=
  let back := (t.round - n).toNat
  if back ≤ 2 then
    match t.captureMark with
    | some (r, i) => if r = n then some i else t.history[back]?
    | none => t.history[back]?
  else none

/-- The most recent mark of any kind; the instant standing for a captured round's mark while the history is empty. -/
def RoundTimer.lastMark (t : RoundTimer) : Option Int :=
  match t.history with
  | i :: _ => some i
  | [] => t.captureMark.map Prod.snd

/-- The elapsed time since the most recent mark, saturating at 65535; 0 when there has been none. -/
def State.sinceLastMark (s : State) : Int :=
  match s.timer.lastMark with
  | some i => min 65535 ((s.now : Int) - i)
  | none => 0

/-- The Round Timer's answer to an elapsed-time query for round n (R5). -/
def State.elapsedSince (s : State) (n : Round) : Int :=
  if s.timer.mode = .numbered then
    if n = s.timer.round + 1 then (s.timer.phase : Int) - s.timer.roundLength
    else
      match s.timer.markOf n with
      | some i => min 65535 ((s.now : Int) - i)
      | none => s.sinceLastMark
  else s.sinceLastMark

/-! ## Out-lanes (R45 to R48) -/

/-- The age field of an own frame at the start of its transmission (R47). -/
def ownAge (answer : Int) : Nat := if answer < 0 then (Config.negativeAge answer).toNat else answer.toNat

/-- The age field of a forwarded copy at the start of its transmission (R47): residence time, LINKDLY and line time; in
START and CONFIG_FAULT residence time alone (R51). -/
def copyAge (config : Option Configuration) (bs : List Byte) (residence : Nat) : Nat :=
  match config with
  | some c => min 65535 (frameAge bs + residence + c.linkdly + lineTime bs)
  | none => min 65535 (frameAge bs + residence)

/-- The head frame brought up to date at the instant its transmission begins (R47). -/
def State.dress (s : State) (f : QueuedFrame) : QueuedFrame :=
  match f.source with
  | .own => { f with bytes := setAge f.bytes (ownAge (s.elapsedSince (frameRound f.bytes))) }
  | .copy t => { f with bytes := setAge f.bytes (copyAge s.life.config f.bytes (s.now - t)) }

/-- A transmitter that is free to send takes a pending line clear first, then the head frame, and is IDLE when it has
neither (R46). -/
def State.serve (s : State) (l : Lane) : State :=
  let x := s.lane l
  if x.clearPending then s.setLane l { x with transmitter := .clearing, clearPending := false }
  else
    match x.queue with
    | f :: rest => s.setLane l { x with transmitter := .sending, queue := s.dress f :: rest }
    | [] => s.setLane l { x with transmitter := .idle }

/-- An IDLE transmitter takes up what has come at once; any other waits for the end of its gap (R46). -/
def State.kick (s : State) (l : Lane) : State :=
  if (s.lane l).transmitter = .idle then s.serve l else s

/-- A line clear is requested on an out-lane (R36). -/
def State.requestClear (s : State) (l : Lane) : State :=
  (s.setLane l { s.lane l with clearPending := true }).kick l

/-- A frame that found room in an out-lane queue (R45). -/
def State.append (s : State) (l : Lane) (f : QueuedFrame) : State :=
  (s.setLane l { s.lane l with queue := (s.lane l).queue ++ [f] }).kick l

/-- A frame dropped at enqueue (R45). -/
def State.dropFrame (s : State) (l : Lane) : State :=
  s.setLane l { s.lane l with
    counters := { (s.lane l).counters with queueFull := bump16 (s.lane l).counters.queueFull } }

/-- Whether an out-lane queue has room (R45). -/
def State.hasRoom (s : State) (l : Lane) : Bool := decide ((s.lane l).queue.length < 8)

/-- A frame offered to an out-lane queue (R45). -/
def State.enqueue (s : State) (l : Lane) (f : QueuedFrame) : State :=
  if s.hasRoom l then s.append l f else s.dropFrame l

/-! ## Changes of the station state -/

/-- The own entry's state in a station state (R89). -/
def ownEntryState : StationState → EntryState
  | .joining => .joining
  | .present => .present
  | _ => .unknown

/-- The records the Trip Unit offers when the station state changes (R145, R150), each with the new state. R139 orders only the
records of a close: the order of these two is a free value too (log entry 11). -/
def tripExitDrafts (s : State) (new : StationState) : List (List Draft) :=
  [ if s.life.state = .present ∧ new ≠ .present ∧ s.trip.energised then
      [{ kind := .tripOff, subject := s.ownNumber, detail := [2#8, byte new.code] }] else [],
    if s.life.state.contributing ∧ ¬ new.contributing ∧ s.trip.bfFlag then
      [{ kind := .bfCleared, subject := s.ownNumber, detail := [2#8, byte new.code] }] else [] ]

/-- The trip output at the instant the station leaves PRESENT (R145). -/
def TripUnit.leavePresent (t : TripUnit) : TripUnit :=
  { t with
    energised := false, holdCount := 0, causeZones := BusSet.empty, bfSources := [], confirmersA := 0, confirmersB := 0 }

/-- The breaker-failure timer at the instant the station leaves JOINING and PRESENT (R150). -/
def TripUnit.leaveContributing (t : TripUnit) : TripUnit := { t with bfTimer := .idle, bfCount := 0, bfFlag := false }

/-- The Trip Unit at a change of the station state (R145, R150). -/
def tripExit (old new : StationState) (t : TripUnit) : TripUnit :=
  let t1 := if old = .present ∧ new ≠ .present then t.leavePresent else t
  if old.contributing ∧ ¬ new.contributing then t1.leaveContributing else t1

/-- The station state changes: the own entry follows it (R89), the Trip Unit acts on it (R145, R150), and the pending
release set is emptied when the station leaves PRESENT (R156). No record is offered here. -/
def State.moveTo (s : State) (new : StationState) : State :=
  let s1 : State :=
    { s with
      life := { s.life with
        state := new
        pendingRelease := if s.life.state = .present ∧ new ≠ .present then ZoneSet.empty else s.life.pendingRelease }
      trip := tripExit s.life.state new s.trip }
  s1.mapEntry s.ownNumber (fun e => { e with state := ownEntryState new })

/-- A change of station state with its records: the Trip Unit's and those of the other blocks at that instant (R184). -/
def State.enter (s : State) (new : StationState) (groups : List (List Draft)) : State :=
  (s.moveTo new).offerGroups (tripExitDrafts s new ++ groups)

/-- The STATION_STATE record of a transition (R172). -/
def stationDraft (s : State) (new : StationState) (reason : StationReason) (more : List Byte) : Draft :=
  { kind := .stationState, subject := s.ownNumber,
    detail := [byte s.life.state.code, byte new.code, byte reason.code] ++ more }

/-- A change of station state that records STATION_STATE (R172). -/
def State.transition (s : State) (new : StationState) (reason : StationReason) (more : List Byte) : State :=
  s.enter new [[stationDraft s new reason more]]

/-! ## LEAVE reports (R48, R167) -/

/-- The Ring Interface is finished with an own LEAVE frame on a lane. In LEAVING the report is counted, and the second one
moves the station to OUT (R167); in HOLD it changes nothing (R170). -/
def State.report (s : State) (transmitted : Bool) : State :=
  if s.life.state = .leaving then
    let reports := bump 2 s.life.leaveReports
    let sent := if transmitted then bump 2 s.life.leaveTransmitted else s.life.leaveTransmitted
    let s1 : State := { s with life := { s.life with leaveReports := reports, leaveTransmitted := sent } }
    if reports = 2 then s1.transition .out .leaveSent [byte sent] else s1
  else s

/-- An own LEAVE frame. -/
def QueuedFrame.isOwnLeave (f : QueuedFrame) : Bool := f.source == .own && f.bytes.getD 0 0 == leadLeave

/-- An own CONTRIB frame. -/
def QueuedFrame.isOwnContrib (f : QueuedFrame) : Bool := f.source == .own && f.bytes.getD 0 0 == leadContrib

/-- An own LEAVE frame offered to an out-lane queue; a drop is reported at once (R48). -/
def State.enqueueLeave (s : State) (l : Lane) (f : QueuedFrame) : State :=
  if s.hasRoom l then s.append l f else (s.dropFrame l).report false

/-- The own LEAVE frame built now (R166). -/
def State.leaveFrame (s : State) (reason : Byte) : QueuedFrame :=
  { source := .own
    bytes := leaveBytes s.ownNumber s.timer.round reason
      { isoA := s.acquisition.isoA.value, isoB := s.acquisition.isoB.value, breaker := s.acquisition.breaker.value }
      (s.life.checksum.getD 0) }

end Sys2Proof.Machine
end

