-- ==== Sys2Proof/Machine/Image.lean ====
section
/-! DEFINITION. The configuration image: its layout and its checks (R158, R159, R189, 11_formats.md section 11.5). -/

namespace Sys2Proof.Machine

/-- The roster count of an image. -/
def imageCount (b : List Byte) : Nat := u8 b 1

/-- The format byte is 0x2E (R159). -/
def formatGood (b : List Byte) : Bool := u8 b 0 == 0x2E

/-- The roster count is 1..40 (R159). -/
def countGood (b : List Byte) : Bool := decide (1 ≤ imageCount b) && decide (imageCount b ≤ 40)

/-- How many bytes the read takes: two, and 2N + 46 more when both are good (R158, R189). -/
def readLength (b : List Byte) : Nat := if formatGood b && countGood b then 2 * imageCount b + 48 else 2

/-- The kind of a roster entry from its kind byte: bits 0 and 1 kind, bits 2 and 3 polarity, the others ignored (R189). -/
def kindOf (k : Nat) : Option BayKind :=
  match k % 4, k / 4 % 4 with
  | 0, _ => some .feeder
  | 1, 1 => some (.coupler .plus)
  | 1, 2 => some (.coupler .minus)
  | _, _ => none

/-- The roster entry at an index. -/
def rosterEntry (b : List Byte) (i : Nat) : RosterEntry :=
  { station := u8 b (2 + 2 * i), kind := (kindOf (u8 b (3 + 2 * i))).getD .feeder }

/-- The roster of an image. -/
def rosterOf (b : List Byte) : List RosterEntry := (List.range (imageCount b)).map (rosterEntry b)

/-- A signed 16-bit field. -/
def s16 (b : List Byte) (i : Nat) : Int := (BitVec.ofNat 16 (u16 b i)).toInt

/-- The parameters of an image, read as numbers over their field widths (R189). -/
def configOf (b : List Byte) : Configuration :=
  let p := 2 * imageCount b + 2
  { roster := rosterOf b
    spc := u8 b p
    period := u16 b (p + 1)
    close := u16 b (p + 3)
    linkdly := u8 b (p + 5)
    pickup := u16 b (p + 6)
    slopeZ := u8 b (p + 8)
    slopeC := u8 b (p + 9)
    countM := u8 b (p + 10)
    incept := u8 b (p + 11)
    holdTf := u8 b (p + 12)
    supLevel := u16 b (p + 13)
    supTime := u16 b (p + 15)
    armRounds := u8 b (p + 17)
    bfTime := u16 b (p + 18)
    bfLevel := u16 b (p + 20)
    confirm := u8 b (p + 22)
    joinRounds := u8 b (p + 23)
    lostRounds := u8 b (p + 24)
    linkDownRounds := u8 b (p + 25)
    endzoneRounds := u8 b (p + 26)
    runLimit := u16 b (p + 27)
    debounce := u8 b (p + 29)
    tripHold := u8 b (p + 30)
    station := u8 b (p + 31)
    scaleA := u16 b (p + 32)
    scaleB := u16 b (p + 34)
    scaleC := u16 b (p + 36)
    ctPolarity := if u8 b (p + 38) = 2 then .minus else .plus
    supplyLevel := u8 b (p + 39)
    refNominal := s16 b (p + 40)
    refBand := u16 b (p + 42) }

/-- A number within a range, both ends included. -/
def within (lo hi n : Nat) : Bool := decide (lo ≤ n) && decide (n ≤ hi)

/-- A roster entry's fields, each with the offset of its first byte and whether it is in range (R159). -/
def rosterRanges (b : List Byte) (i : Nat) : List (Nat × Bool) :=
  [(2 + 2 * i, within 0 39 (u8 b (2 + 2 * i))), (3 + 2 * i, (kindOf (u8 b (3 + 2 * i))).isSome)]

/-- The shared parameters' fields (R159). -/
def sharedRanges (c : Configuration) (p : Nat) : List (Nat × Bool) :=
  [(p, c.spc == 16 || c.spc == 20 || c.spc == 24),
    (p + 1, within 500 2500 c.period),
    (p + 3, within 200 (c.period - 100) c.close),
    (p + 5, within 0 255 c.linkdly),
    (p + 6, within 2 65535 c.pickup),
    (p + 8, within 1 15 c.slopeZ),
    (p + 9, within 1 15 c.slopeC),
    (p + 10, within 1 c.w c.countM),
    (p + 11, within 1 255 c.incept),
    (p + 12, within c.w (4 * c.spc) c.holdTf),
    (p + 13, within 1 (c.pickup - 1) c.supLevel),
    (p + 15, within (2 * c.spc) 65535 c.supTime),
    (p + 17, within c.spc 255 c.armRounds),
    (p + 18, within 1 65535 c.bfTime),
    (p + 20, within 1 65535 c.bfLevel),
    (p + 22, within 0 39 c.confirm),
    (p + 23, within 1 255 c.joinRounds),
    (p + 24, within 2 32 c.lostRounds),
    (p + 25, within 1 255 c.linkDownRounds),
    (p + 26, within 1 255 c.endzoneRounds),
    (p + 27, within 1 65535 c.runLimit),
    (p + 29, within 2 8 c.debounce),
    (p + 30, within c.spc 255 c.tripHold)]

/-- The station parameters' fields (R159); REF_NOMINAL's range is its whole field. -/
def stationRanges (b : List Byte) (c : Configuration) (p : Nat) : List (Nat × Bool) :=
  [(p + 31, within 0 39 c.station),
    (p + 32, within 1 65535 c.scaleA),
    (p + 34, within 1 65535 c.scaleB),
    (p + 36, within 1 65535 c.scaleC),
    (p + 38, within 1 2 (u8 b (p + 38))),
    (p + 39, within 0 15 c.supplyLevel),
    (p + 42, within 1 32767 c.refBand)]

/-- Every field of the image in the order of its place. -/
def rangesOf (b : List Byte) : List (Nat × Bool) :=
  let p := 2 * imageCount b + 2
  (List.range (imageCount b)).flatMap (rosterRanges b) ++ sharedRanges (configOf b) p ++ stationRanges b (configOf b) p

/-- The offset of the first byte of the lowest-placed field out of range (R189). -/
def firstOutOfRange (b : List Byte) : Option Nat := ((rangesOf b).find? (fun f => !f.2)).map Prod.fst

/-- The number of couplers on a roster. -/
def couplerCount (r : List RosterEntry) : Nat := r.countP (fun e => e.kind != .feeder)

/-- The checks in their order; the first that fails gives the result (R159). -/
def imageCheck (strap : Nat) (b : List Byte) : CheckResult :=
  if !formatGood b then .format
  else if !countGood b then .count
  else if !crcGood b then .crc
  else if (firstOutOfRange b).isSome then .range
  else if ¬ ((rosterOf b).map RosterEntry.station).Nodup then .duplicate
  else if 2 < couplerCount (rosterOf b) then .couplers
  else if !(configOf b).onRoster (configOf b).station then .notOnRoster
  else if strap ≠ (configOf b).station then .strapMismatch
  else .good

/-- The shared checksum: the CRC over bytes 0 to 2N + 32 (R159, R189). -/
def sharedChecksum (b : List Byte) : Round := crc16 (b.take (2 * imageCount b + 33))

/-- The detail of CONFIG_FAULT (R160, R188). -/
def faultDetail (b : List Byte) (r : CheckResult) : List Byte :=
  match r with
  | .range => byte r.code :: bytes2 ((firstOutOfRange b).getD 0)
  | _ => [byte r.code]

end Sys2Proof.Machine
end

