-- ==== Sys2Proof/Machine/Acquire.lean ====
section
/-! DEFINITION. The Acquisition Unit's own operations: reading and debouncing the inputs, scans, scaling, the reference check
(R18 to R33). -/

namespace Sys2Proof.Machine

/-- One read of a debounced input (R27). -/
def Debounce.step {α : Type} [DecidableEq α] (limit : Nat) (read : α) (d : Debounce α) : Debounce α :=
  if read = d.value then { d with candidate := none }
  else
    match d.candidate with
    | some (v, n) =>
      if v = read then if limit ≤ n + 1 then ⟨read, none⟩ else { d with candidate := some (v, n + 1) }
      else { d with candidate := some (read, 1) }
    | none => { d with candidate := some (read, 1) }

/-- One read of an input: debounced with a configuration in force; adopted at once in CONFIG_FAULT (R27, R30). -/
def readInput {α : Type} [DecidableEq α] (config : Option Configuration) (read : α) (d : Debounce α) : Debounce α :=
  match config with
  | some c => d.step c.debounce read
  | none => ⟨read, none⟩

/-- The reads of a mark (R19, R26). -/
def Acquisition.readLines (a : Acquisition) (config : Option Configuration) (l : BayLines) : Acquisition :=
  { a with
    isoA := readInput config (linePositions l).isoA a.isoA
    isoB := readInput config (linePositions l).isoB a.isoB
    breaker := readInput config (linePositions l).breaker a.breaker
    initiation := readInput config l.bfi a.initiation }

/-- The scan of a mark begins, or is made pending while another is in progress (R19, R21). -/
def Acquisition.beginScan (a : Acquisition) (tag : ScanTag) : Acquisition :=
  match a.scan with
  | none => { a with scan := some tag }
  | some _ => { a with pendingScan := some tag }

/-- A mark taken by the unit (R19). -/
def State.acquireMark (s : State) (l : BayLines) (tag : ScanTag) : State :=
  { s with acquisition := (s.acquisition.readLines s.life.config l).beginScan tag }

/-- A REF count is good (R24). -/
def refGood (c : Configuration) (ref : Int) : Bool :=
  decide (c.refNominal - c.refBand ≤ ref) && decide (ref ≤ c.refNominal + c.refBand)

/-- The quality and runs after a reading (R25). -/
def Acquisition.checkRef (a : Acquisition) (good : Bool) : Acquisition :=
  match a.quality, good with
  | .valid, true => { a with missRun := 0 }
  | .valid, false =>
    if a.missRun = 0 then { a with missRun := 1 } else { a with quality := .invalid, missRun := 0, goodRun := 0 }
  | .invalid, true =>
    if a.goodRun < 15 then { a with goodRun := a.goodRun + 1 } else { a with quality := .valid, goodRun := 0, missRun := 0 }
  | .invalid, false => { a with goodRun := 0 }

/-- The record of a change of quality (R25). -/
def qualityDraft (own : Nat) (old new : Quality) (ref : Int) : List Draft :=
  match old, new with
  | .valid, .invalid => [{ kind := .acqFault, subject := own, detail := signed16 ref }]
  | .invalid, .valid => [{ kind := .acqRestored, subject := own, detail := signed16 ref }]
  | _, _ => []

/-- The currents of a scan: scaled with a configuration in force, the counts themselves without one (R23, R30). -/
def scanCurrents (config : Option Configuration) (n : ScanCounts) : Tri Int :=
  match config with
  | some c =>
    ⟨scaleCount c.scaleA c.ctPolarity n.ia.toInt, scaleCount c.scaleB c.ctPolarity n.ib.toInt,
      scaleCount c.scaleC c.ctPolarity n.ic.toInt⟩
  | none => ⟨n.ia.toInt, n.ib.toInt, n.ic.toInt⟩

/-- The unit after a completed scan: latest values stored, reference check made where a configuration is in force, and
the pending scan, if any, begun (R20, R21, R24, R30). -/
def Acquisition.complete (a : Acquisition) (config : Option Configuration) (n : ScanCounts) : Acquisition :=
  let a1 := { a with ref := some n.ref.toInt, currents := some (scanCurrents config n), scan := a.pendingScan, pendingScan := none }
  match config with
  | some c => a1.checkRef (refGood c n.ref.toInt)
  | none => a1

/-- The positions the unit holds (R28). -/
def Acquisition.positions (a : Acquisition) : Positions :=
  { isoA := a.isoA.value, isoB := a.isoB.value, breaker := a.breaker.value }

end Sys2Proof.Machine
end

