-- ==== Sys2Proof/Machine/Members.lean ====
section
/-! DEFINITION. The Membership Table's own operations (R75 to R92). -/

namespace Sys2Proof.Machine

/-- An entry as it is made at the entry to STABILISE (R76). -/
def Entry.fresh (r : RosterEntry) : Entry :=
  { station := r.station, kind := r.kind, state := .unknown, joinRun := 0, missRun := 0, lastKnown := none, leaveRound := none,
    leaveReason := none, refusal := false, indefiniteA := 0, indefiniteB := 0, openRun := 0, outOfWindowRun := 0,
    latestLowest := none, closing := { state := .unknown, rowStatus := none }, late := 0, outOfWindow := 0, disagree := 0,
    stale := 0 }

/-- A peer entry is heard in a row (R77). -/
def Entry.heard (e : Entry) (row : Row) : Bool :=
  (row.content e.station).isSome &&
  (e.state != .left || match e.leaveRound with
    | some l => roundAfter row.round l
    | none => true)

/-- A peer entry becomes JOINING with a join run of 1 (R78). -/
def Entry.rejoin (e : Entry) : Entry :=
  { e with state := .joining, joinRun := 1, missRun := 0, leaveRound := none, leaveReason := none }

/-- Step 1 of the update for a peer entry: its state and its join and miss runs (R78 to R80). -/
def Entry.peerStep (c : Configuration) (heard : Bool) (e : Entry) : Entry :=
  match e.state with
  | .unknown | .lost | .left => if heard then e.rejoin else e
  | .refused => if heard && !e.refusal then e.rejoin else e
  | .joining =>
    if heard then
      if c.joinRounds ≤ e.joinRun + 1 then { e with state := .present, joinRun := 0, missRun := 0 }
      else { e with joinRun := e.joinRun + 1 }
    else { e with joinRun := 0 }
  | .present =>
    if heard then { e with missRun := 0 }
    else if c.lostRounds ≤ e.missRun + 1 then { e with state := .lost, missRun := 0, joinRun := 0 }
    else { e with missRun := e.missRun + 1 }

/-- Step 1 for the own entry (R89). -/
def Entry.ownStep (st : StationState) (e : Entry) : Entry :=
  { e with state := ownEntryState st, joinRun := 0, missRun := 0 }

/-- Step 2: the row status, after step 1 (R77). -/
def Entry.rowStatus (e : Entry) (row : Row) : Option BayStatus :=
  if e.state = .left then e.lastKnown
  else
    match row.content e.station with
    | some k => some k.status
    | none => e.lastKnown

/-- An indefinite run, from an isolator of the row status (R86). -/
def indefiniteRun (limit run : Nat) (value : Option DoubleBit) : Nat :=
  match value with
  | some .intermediate | some .invalid => bump limit run
  | _ => 0

/-- The open run (R87). -/
def openRunStep (kind : BayKind) (limit run : Nat) (value : Option DoubleBit) : Nat :=
  match kind, value with
  | .coupler _, some .opened => bump limit run
  | _, _ => 0

/-- The out-of-window run of a peer entry (R88). -/
def outOfWindowStep (limit run : Nat) (row : Row) (n : Nat) : Nat :=
  match row.body n with
  | .empty => if row.mark n then bump limit run else 0
  | _ => 0

/-- Steps 2 to 5 of the update (R77). -/
def Entry.settleRow (c : Configuration) (own : Bool) (row : Row) (e : Entry) : Entry :=
  let status := e.rowStatus row
  { e with
    indefiniteA := indefiniteRun c.runLimit e.indefiniteA (status.map (fun b => b.positions.isoA))
    indefiniteB := indefiniteRun c.runLimit e.indefiniteB (status.map (fun b => b.positions.isoB))
    openRun := openRunStep e.kind c.endzoneRounds e.openRun (status.map (fun b => b.positions.breaker))
    outOfWindowRun := if own then 0 else outOfWindowStep c.lostRounds e.outOfWindowRun row e.station
    closing := { state := e.state, rowStatus := status }
    refusal := false }

/-- The update of one entry at the close of a row (R77). -/
def Entry.close (c : Configuration) (st : StationState) (row : Row) (e : Entry) : Entry :=
  if e.station = c.station then (e.ownStep st).settleRow c true row
  else (e.peerStep c (e.heard row)).settleRow c false row

/-- The ENTRY_STATE record of a change of a peer entry's state (R77). -/
def entryDraft (old new : Entry) : List Draft :=
  if old.state = new.state then []
  else
    [{ kind := .entryState, subject := new.station,
       detail := [byte old.state.code, byte new.state.code] ++
         (if new.state = .left then [new.leaveReason.getD 0] else []) }]

/-- The records of the update of one entry; the own entry records none (R77). -/
def closeDraft (c : Configuration) (st : StationState) (row : Row) (e : Entry) : List Draft :=
  if e.station = c.station then [] else entryDraft e (e.close c st row)

/-- The Membership Table at the close of a row (R77). -/
def State.membershipClose (s : State) (c : Configuration) : State :=
  match s.table.newest with
  | none => s
  | some row =>
    let old := s.membership.entries
    let s1 : State :=
      { s with membership := { s.membership with entries := old.map (Entry.close c s.life.state row) } }
    s1.offerAll (old.flatMap (closeDraft c s.life.state row))

/-- An entry's state changed by an arrival, with its record (R77). -/
def State.changeEntry (s : State) (e : Entry) (f : Entry → Entry) : State :=
  (s.mapEntry e.station f).offerAll (entryDraft e (f e))

/-- A refused CONTRIB (R83). -/
def Entry.refuse (e : Entry) : Entry :=
  if e.state = .refused then { e with refusal := true }
  else { e with state := .refused, joinRun := 0, missRun := 0, refusal := true, leaveRound := none, leaveReason := none }

/-- A LEAVE taken (R84). -/
def Entry.takeLeave (f : LeaveFrame) (e : Entry) : Entry :=
  { e with
    state := .left, leaveRound := some f.round, leaveReason := some f.reason, joinRun := 0, missRun := 0, refusal := false,
    lastKnown := some { positions := f.positions, bf := false } }

/-- A LEAVE frame handed to the Membership Table (R84, R85). A second copy whose checksum byte differs falls under both cases of
R85; that the checksum is tested first, and such a copy counted, is the model's choice (log entry 28). -/
def State.leaveArrival (s : State) (f : LeaveFrame) : State :=
  match s.entry f.origin with
  | some e =>
    if f.check ≠ ((s.life.checksum.getD 0).setWidth 8) then
      { s with membership := { s.membership with discardedLeaves := bump16 s.membership.discardedLeaves } }
    else if e.state = .left ∧ e.leaveRound = some f.round then s
    else s.changeEntry e (Entry.takeLeave f)
  | none => { s with membership := { s.membership with discardedLeaves := bump16 s.membership.discardedLeaves } }

/-- A recapture sets every out-of-window run to 0 (R88, R14). -/
def Membership.clearRuns (m : Membership) : Membership :=
  { m with entries := m.entries.map (fun e => { e with outOfWindowRun := 0 }) }

end Sys2Proof.Machine
end

