-- ==== Sys2Proof/Machine/Timer.lean ====
section
/-! DEFINITION. The Round Timer's own operations: marks, the adoption of a peer's numbering, pull-in (R1 to R16). -/

namespace Sys2Proof.Machine

/-- The instant of a mark is added to the mark history, which keeps three (R3). Once three marks stand in it, the instant
standing for a captured round's mark lies outside the rounds that queries are answered for (R5). -/
def RoundTimer.addMark (t : RoundTimer) (now : Nat) : RoundTimer :=
  let history := ((now : Int) :: t.history).take 3
  { t with history := history, captureMark := if history.length = 3 then none else t.captureMark }

/-- A round mark (R3). -/
def RoundTimer.roundMark (t : RoundTimer) (period now : Nat) : RoundTimer :=
  { t.addMark now with
    round := t.round + 1, phase := 0, roundLength := period, pendingAdjustment := none, captured := false }

/-- A local mark (R2). -/
def RoundTimer.localMark (t : RoundTimer) (now : Nat) : RoundTimer :=
  { t.addMark now with phase := 0, localCount := bump16 t.localCount }

/-- A bare mark (R2). -/
def RoundTimer.bareMark (t : RoundTimer) (now : Nat) : RoundTimer := { t.addMark now with phase := 0 }

/-- The local mark that ends LISTEN becomes the round mark of round 0, the only entry of the mark history (R7). -/
def RoundTimer.startNumbering (t : RoundTimer) (period now : Nat) : RoundTimer :=
  { t with
    mode := .numbered, round := 0, phase := 0, roundLength := period, pendingAdjustment := none, captured := false,
    localCount := bump16 t.localCount, history := [(now : Int)], captureMark := none }

/-- The peer elapsed time of a CONTRIB: its age, LINKDLY, and 5 µs for the frame itself (R8). -/
def peerElapsed (c : Configuration) (age : Nat) : Nat := age + c.linkdly + 5

/-- The phase adopted from a CONTRIB at a capture or recapture (R10, R14). -/
def capturedPhase (c : Configuration) (age : Nat) : Nat := min (peerElapsed c age) (c.period - 1)

/-- The timer at a capture or recapture from round r with this phase (R10, R14). -/
def RoundTimer.adopt (t : RoundTimer) (period now : Nat) (r : Round) (phase : Nat) : RoundTimer :=
  { t with
    mode := .numbered, round := r, phase := phase, roundLength := period, pendingAdjustment := none, captured := true,
    history := [], captureMark := some (r, (now : Int) - phase) }

/-- The rows at a capture or recapture: all emptied, and the row of round r + 1 opened (R70); the settling interval
begins (R66). -/
def RoundTable.adopt (t : RoundTable) (r : Round) : RoundTable :=
  { t with openRow := some (Row.fresh (r + 1)), newest := none, older := none, settling := true }

/-- The tags of the scan in progress and of the pending scan become VOID at a capture or recapture (R22). -/
def Acquisition.voidTags (a : Acquisition) : Acquisition :=
  { a with scan := a.scan.map (fun _ => .void), pendingScan := a.pendingScan.map (fun _ => .void) }

/-- What a capture and a recapture have in common (R10, R14). -/
def State.adopt (s : State) (c : Configuration) (r : Round) (phase : Nat) : State :=
  { s with
    timer := s.timer.adopt c.period s.now r phase
    table := s.table.adopt r
    acquisition := s.acquisition.voidTags }

/-- A capture from a CONTRIB of origin n, round r and this age (R10). -/
def State.capture (s : State) (c : Configuration) (n : Nat) (r : Round) (age : Nat) : State :=
  let phase := capturedPhase c age
  (s.adopt c r phase).offer { kind := .capture, subject := n, detail := bytes2 r.toNat ++ bytes2 phase }

/-- The lead of a CONTRIB accepted now (R8). -/
def State.leadOf (s : State) (c : Configuration) (r : Round) (age : Nat) : Int :=
  (peerElapsed c age : Int) - s.elapsedSince r

/-- The lead a slot offers to the pull-in: FILLED with a contribution sent in PRESENT (R9). -/
def slotLead : Slot → Option Int
  | { body := .filled c (some k), .. } => if c.sender = .present then some k.lead else none
  | _ => none

/-- The largest of a list of leads. -/
def largestLead : List Int → Option Int
  | [] => none
  | x :: xs => match largestLead xs with
    | none => some x
    | some y => some (max x y)

/-- The pending adjustment decided from the largest lead (R9). -/
def pullIn (lead : Option Int) : Option Nat :=
  match lead with
  | some x => if 2 < x then some (min x 25).toNat else none
  | none => none

/-- The Round Timer at the close of a row (R9). -/
def State.timerClose (s : State) (c : Configuration) : State :=
  match s.table.newest with
  | none => s
  | some row =>
    if s.life.state.working then
      match pullIn (largestLead (row.slots.filterMap slotLead)) with
      | some adjustment =>
        { s with timer := { s.timer with pendingAdjustment := some adjustment, roundLength := c.period - adjustment } }
      | none => s
    else s

end Sys2Proof.Machine
end

