-- ==== Sys2Proof/Machine/Replicas.lean ====
section
/-! DEFINITION. The Replica Unit: the zone picture of a closed row (R93 to R112). -/

namespace Sys2Proof.Machine

/-- An isolator value read as connected or not (R97): every value but OPEN. -/
def DoubleBit.connects (d : DoubleBit) : Bool := d != .opened

/-- Connection to busbar A; a station whose status is unknown is connected (R97). -/
def connectsA (status : Option Positions) : Bool :=
  match status with
  | some p => p.isoA.connects
  | none => true

/-- Connection to busbar B (R97). -/
def connectsB (status : Option Positions) : Bool :=
  match status with
  | some p => p.isoB.connects
  | none => true

/-- A station's connections and runs, from its entry after the update of the close (R95 to R97, R100, R109). -/
def Entry.positions (e : Entry) : Option Positions := e.closing.rowStatus.map BayStatus.positions

/-- A feeder connected to both busbars by its closing record (R98). -/
def Entry.joinsBusbars (e : Entry) : Bool :=
  e.kind == .feeder && connectsA e.positions && connectsB e.positions

/-- The replica is MERGED (R98). -/
def mergedBy (entries : List Entry) : Bool := entries.any Entry.joinsBusbars

/-- The end-zone condition is RELEASED (R100). -/
def Entry.releasedAt (c : Configuration) (e : Entry) : Bool :=
  e.kind != .feeder && e.openRun == c.endzoneRounds

/-- Own trip zones (R107, R108). -/
def tripZonesOf (merged : Bool) (kind : BayKind) (onA onB : Bool) : BusSet :=
  match kind with
  | .feeder => if merged && (onA || onB) then ⟨true, true⟩ else ⟨onA && !onB, onB && !onA⟩
  | .coupler _ => ⟨onA, onB⟩

/-- The station record of an entry (R93). -/
def Entry.record (c : Configuration) (merged : Bool) (e : Entry) : StationRecord :=
  let onA := connectsA e.positions
  let onB := connectsB e.positions
  { station := e.station
    kind := e.kind
    status := e.positions
    connectedA := onA
    connectedB := onB
    stuckA := e.indefiniteA == c.runLimit
    stuckB := e.indefiniteB == c.runLimit
    released := e.releasedAt c
    counted := e.kind != .feeder && onA && onB && !e.releasedAt c
    tripZones := tripZonesOf merged e.kind onA onB }

/-- The opposite sign. -/
def negate : Polarity → Polarity
  | .plus => .minus
  | .minus => .plus

/-- A station's membership of a zone with its sign (R103 to R105). -/
def StationRecord.memberSign (r : StationRecord) (merged : Bool) (z : Zone) : Option Polarity :=
  match r.kind, z with
  | .feeder, .a =>
    if merged then if r.connectedA || r.connectedB then some .plus else none
    else if r.connectedA && !r.connectedB then some .plus else none
  | .feeder, .b =>
    if merged then if r.connectedA || r.connectedB then some .plus else none
    else if r.connectedB && !r.connectedA then some .plus else none
  | .feeder, .cz => if r.connectedA || r.connectedB then some .plus else none
  | .coupler p, .a => if !merged && r.counted then some (negate p) else none
  | .coupler p, .b => if !merged && r.counted then some p else none
  | .coupler _, .cz => none

/-- The record of a station number in a list of records. -/
def recordOf (records : List StationRecord) (n : Nat) : Option StationRecord := records.find? (fun r => r.station == n)

/-- A member set, ordered by ascending station number, each station at most once (R106). -/
def memberSet (records : List StationRecord) (merged : Bool) (z : Zone) : List Member :=
  (List.range 40).filterMap fun n =>
    match recordOf records n with
    | some r => (r.memberSign merged z).map (fun p => { station := n, sign := p })
    | none => none

/-- A station with a STUCK isolator. -/
def StationRecord.stuck (r : StationRecord) : Bool := r.stuckA || r.stuckB

/-- A member set that holds a station with a STUCK isolator (R109). -/
def holdsStuck (records : List StationRecord) (set : List Member) : Bool :=
  set.any fun m => match recordOf records m.station with
    | some r => r.stuck
    | none => false

/-- The replica of a row (R95). -/
def formReplica (c : Configuration) (round : Round) (entries : List Entry) : Replica :=
  let merged := mergedBy entries
  let records := entries.map (Entry.record c merged)
  let a := memberSet records merged .a
  let b := memberSet records merged .b
  let cz := memberSet records merged .cz
  { round := some round, merged := merged, records := records, setA := a, setB := b, setCZ := cz,
    stuck := ⟨holdsStuck records a, holdsStuck records b, holdsStuck records cz⟩ }

/-- The member set of a zone. -/
def Replica.members (r : Replica) : Zone → List Member
  | .a => r.setA
  | .b => r.setB
  | .cz => r.setCZ

/-- The station numbers of the feeders connected to both busbars, ascending. -/
def Replica.joiners (r : Replica) : List Nat :=
  (List.range 40).filter fun n => match recordOf r.records n with
    | some x => x.kind == .feeder && x.connectedA && x.connectedB
    | none => false

/-- The merge event of a formation (R99). -/
def mergeDraft (held new : Replica) : List Draft :=
  match held.merged, new.merged with
  | false, true =>
    [{ kind := .replicaMerge, subject := new.joiners.headD noNumber, detail := [byte new.joiners.length] }]
  | true, false => [{ kind := .replicaSplit, subject := held.joiners.headD noNumber, detail := [0] }]
  | _, _ => []

/-- Whether a station is RELEASED in a replica; a replica without a record for it counts as NORMAL (R94). -/
def Replica.releasedIn (r : Replica) (n : Nat) : Bool :=
  match recordOf r.records n with
  | some x => x.released
  | none => false

/-- Whether an isolator is STUCK in a replica; a replica without a record for it counts as not STUCK (R94). -/
def Replica.stuckIn (r : Replica) (n : Nat) (bus : Bus) : Bool :=
  match recordOf r.records n, bus with
  | some x, .a => x.stuckA
  | some x, .b => x.stuckB
  | none, _ => false

/-- A double-bit value as a detail byte, 0xFF for absent. -/
def valueByte (v : Option DoubleBit) : Byte := byte ((v.map DoubleBit.code).getD noNumber)

/-- The end-zone event of a coupler (R101). -/
def endzoneDraft (c : Configuration) (held : Replica) (x : StationRecord) : List Draft :=
  match held.releasedIn x.station, x.released with
  | false, true => [{ kind := .endzoneRelease, subject := x.station, detail := [byte c.endzoneRounds] }]
  | true, false => [{ kind := .endzoneRestore, subject := x.station, detail := [valueByte (x.status.map Positions.breaker)] }]
  | _, _ => []

/-- The stuck events of a station, isolator A before isolator B (R110). -/
def stuckDraft (held : Replica) (x : StationRecord) : List Draft :=
  (if x.stuckA && !held.stuckIn x.station .a then
    [{ kind := .isolatorStuck, subject := x.station, detail := [byte (busCode .a), valueByte (x.status.map Positions.isoA)] }]
   else []) ++
  (if x.stuckB && !held.stuckIn x.station .b then
    [{ kind := .isolatorStuck, subject := x.station, detail := [byte (busCode .b), valueByte (x.status.map Positions.isoB)] }]
   else [])

/-- The events of a formation, in the order of R99. -/
def replicaDrafts (c : Configuration) (held new : Replica) : List Draft :=
  mergeDraft held new ++ new.records.flatMap (endzoneDraft c held) ++ new.records.flatMap (stuckDraft held)

/-- The Replica Unit at the close of a row (R95). -/
def State.replicaClose (s : State) (c : Configuration) : State :=
  match s.table.newest with
  | none => s
  | some row =>
    let new := formReplica c row.round s.membership.entries
    let s1 : State := { s with replica := { held := new, previous := s.replica.held } }
    s1.offerAll (replicaDrafts c s.replica.held new)

end Sys2Proof.Machine
end

