-- ==== Sys2Proof/Machine/Zones.lean ====
section
/-! DEFINITION. The Zone Evaluator (R113 to R134). -/

namespace Sys2Proof.Machine

/-! ## What one zone reads at a close -/

/-- The inputs of one zone's steps at the close of a row (R120). -/
structure ZoneInputs where
  /-- CZ, or a busbar zone. -/
  check : Bool
  members : List Member
  previous : List Member
  stuck : Bool
  row : Row
  entries : List Entry
  /-- The release requests of a station's contribution that concern this record (R131, R128). -/
  asks : ZoneSet → Bool
  /-- CZ is ACTIVE after its own update (R123). -/
  czActive : Bool
  /-- The phases faulted in CZ in this row (R123). -/
  czFaulted : Tri Bool
  /-- Free values of this close for this zone (log entries 12, 13). -/
  pickPhase : Nat
  preferLatch : Bool

/-- A station's closing state is PRESENT (R81). -/
def closingPresent (entries : List Entry) (n : Nat) : Bool :=
  match entries.find? (fun e => e.station == n) with
  | some e => e.closing.state == .present
  | none => false

/-- The contribution of a member in a row, if its slot is FILLED with quality VALID (R115). -/
def validContent (row : Row) (n : Nat) : Option Content :=
  match row.content n with
  | some k => if k.quality = .valid then some k else none
  | none => none

/-- The row is complete for the zone (R115). -/
def ZoneInputs.complete (x : ZoneInputs) : Bool :=
  !x.members.isEmpty && x.members.all (fun m => (validContent x.row m.station).isSome)

/-- The members whose closing state is not PRESENT, ascending. -/
def ZoneInputs.absent (x : ZoneInputs) : List Nat :=
  (x.members.map Member.station).filter (fun n => !closingPresent x.entries n)

/-- The row is qualifying for the zone (R115). -/
def ZoneInputs.qualifying (x : ZoneInputs) : Bool := x.complete && x.absent.isEmpty

/-- A member's current in a phase, 0 for a missing member (R115). -/
def memberCurrent (row : Row) (p : Phase) (m : Member) : Int :=
  match validContent row m.station with
  | some k => k.currents.get p
  | none => 0

/-- The operate quantity (R116). -/
def operateQuantity (row : Row) (p : Phase) (ms : List Member) : Nat :=
  ((ms.map (fun m : Member => polaritySign m.sign * memberCurrent row p m)).foldl (· + ·) 0).natAbs

/-- The restraint quantity (R116). -/
def restraintQuantity (row : Row) (p : Phase) (ms : List Member) : Nat :=
  (ms.map (fun m => (memberCurrent row p m).natAbs)).foldl (· + ·) 0

/-- The bias condition (R116). -/
def biasCondition (c : Configuration) (check : Bool) (o s : Nat) : Bool :=
  decide (c.pickup ≤ o) && decide ((if check then c.slopeC else c.slopeZ) * s ≤ 16 * o)

/-! ## The steps of one zone (R120) -/

/-- The window, mark and previous restraint of a phase cleared (R119). -/
def PhaseRecord.clearWindow (p : PhaseRecord) : PhaseRecord :=
  { p with window := [], markHold := 0, previousHigh := false, supervisionRun := 0 }

/-- The clearing of R119 in every phase. -/
def ZoneRecord.clearWindows (z : ZoneRecord) : ZoneRecord := { z with phases := z.phases.map PhaseRecord.clearWindow }

/-- Step 2: clearing on a change of member set (R119). -/
def stepMembers (x : ZoneInputs) (z : ZoneRecord) : ZoneRecord :=
  if x.members = x.previous then z else z.clearWindows

/-- Step 3 for one phase: the quantities and the condition of a complete row, absent on an incomplete one (R116). -/
def phaseQuantities (c : Configuration) (x : ZoneInputs) (ph : Phase) (p : PhaseRecord) : PhaseRecord :=
  if x.complete then
    let o := operateQuantity x.row ph x.members
    let s := restraintQuantity x.row ph x.members
    { p with operate := some o, restraint := some s, condition := some (biasCondition c x.check o s) }
  else { p with operate := none, restraint := none, condition := none }

/-- Step 3 (R115, R116). -/
def stepQuantities (c : Configuration) (x : ZoneInputs) (z : ZoneRecord) : ZoneRecord :=
  { z with phases := ⟨phaseQuantities c x .a z.phases.a, phaseQuantities c x .b z.phases.b, phaseQuantities c x .c z.phases.c⟩ }

/-- O below SUP_LEVEL, and present (R131, R183). -/
def PhaseRecord.quiet (c : Configuration) (p : PhaseRecord) : Bool :=
  match p.operate with
  | some o => decide (o < c.supLevel)
  | none => false

/-- The PRESENT stations whose contribution asks for the release of this zone, ascending (R131). -/
def ZoneInputs.requesters (x : ZoneInputs) : List Nat :=
  (List.range 40).filter fun n =>
    closingPresent x.entries n && match x.row.content n with
      | some k => x.asks k.release
      | none => false

/-- Every phase's supervision run becomes 0. -/
def ZoneRecord.zeroRuns (z : ZoneRecord) : ZoneRecord := { z with phases := z.phases.map (fun p => { p with supervisionRun := 0 }) }

/-- The station whose request releases the latch at this close, if it is released (R131). -/
def releaseBy (c : Configuration) (x : ZoneInputs) (z : ZoneRecord) : Option Nat :=
  if z.latch && x.complete && z.phases.all (PhaseRecord.quiet c) then x.requesters.head? else none

/-- Step 4: release of the supervision latch (R131). -/
def stepRelease (c : Configuration) (x : ZoneInputs) (z : ZoneRecord) : ZoneRecord :=
  match releaseBy c x z with
  | some _ => { z.zeroRuns with latch := false }
  | none => z

/-- A phase's supervision run on a qualifying row (R130). -/
def phaseRun (c : Configuration) (p : PhaseRecord) : PhaseRecord :=
  if p.condition = some false ∧ c.supLevel ≤ p.operate.getD 0 then { p with supervisionRun := p.supervisionRun + 1 }
  else { p with supervisionRun := 0 }

/-- Step 5 before the setting of the latch: the runs are updated on a qualifying row with the latch clear (R130). -/
def stepRuns (c : Configuration) (x : ZoneInputs) (z : ZoneRecord) : ZoneRecord :=
  if x.qualifying && !z.latch then { z with phases := z.phases.map (phaseRun c) } else z

/-- The phases whose run has reached SUP_TIME in this row (R130). -/
def runsReached (c : Configuration) (x : ZoneInputs) (z : ZoneRecord) : List Phase :=
  if x.qualifying && !z.latch then z.phases.which (fun p => decide (c.supTime ≤ p.supervisionRun)) else []

/-- The phase that SUPERVISION_LATCH names: the one that reached SUP_TIME, a free choice when there are several (log entry 12). -/
def namedPhase (pick : Nat) : List Phase → Option Phase
  | [] => none
  | [p] => some p
  | ps => ps[pick % ps.length]?

/-- Step 5: the setting of the latch (R130). -/
def stepLatch (c : Configuration) (x : ZoneInputs) (z : ZoneRecord) : ZoneRecord :=
  if (runsReached c x z).isEmpty then z else { z.zeroRuns with latch := true }

/-- The row is evaluated for the zone, once the supervision steps have been taken (R115). -/
def ZoneInputs.evaluated (x : ZoneInputs) (z : ZoneRecord) : Bool := x.qualifying && !z.latch

/-- S at or above INCEPT·PICKUP (R118). -/
def restraintHigh (c : Configuration) (p : PhaseRecord) : Bool := decide (c.incept * c.pickup ≤ p.restraint.getD 0)

/-- The through-fault mark of a phase on an evaluated row (R118). -/
def phaseMark (c : Configuration) (p : PhaseRecord) : PhaseRecord :=
  { p with
    markHold := if restraintHigh c p && !p.previousHigh && p.condition == some false then c.holdTf else p.markHold - 1
    previousHigh := restraintHigh c p }

/-- The newest n items of a list. -/
def lastN {α : Type} (n : Nat) (l : List α) : List α := l.drop (l.length - n)

/-- The condition appended to the window, which keeps the last W (R117). -/
def phaseWindow (c : Configuration) (p : PhaseRecord) : PhaseRecord :=
  { p with window := lastN c.w (p.window ++ [p.condition.getD false]) }

/-- The true count of a window (R117). -/
def PhaseRecord.trueCount (p : PhaseRecord) : Nat := p.window.count true

/-- The effective count (R117). -/
def effectiveFor (c : Configuration) (stuck : Bool) (p : PhaseRecord) : Nat :=
  if 0 < p.markHold ∨ stuck then c.w else c.countM

/-- Step 6 for one phase (R117, R118). -/
def phaseJudge (c : Configuration) (evaluated stuck : Bool) (p : PhaseRecord) : PhaseRecord :=
  let p1 := if evaluated then phaseWindow c (phaseMark c p) else p
  { p1 with
    effectiveCount := effectiveFor c stuck p1
    faulted := evaluated && decide (effectiveFor c stuck p1 ≤ p1.trueCount) }

/-- Step 6 (R117, R118). -/
def stepJudge (c : Configuration) (x : ZoneInputs) (z : ZoneRecord) : ZoneRecord :=
  { z with phases := z.phases.map (phaseJudge c (x.evaluated z) x.stuck) }

/-- A zone taken out of service: its counts become 0 (R121). -/
def ZoneRecord.outOf (z : ZoneRecord) (st : ZoneState) : ZoneRecord :=
  { z with state := st, armingCount := 0, gapCount := 0, clearRun := 0 }

/-- Why a zone with a set latch or an absent member is BLOCKED (R126); with both, a free choice (log entry 13). -/
def blockReason (x : ZoneInputs) (z : ZoneRecord) : ZoneReason :=
  match x.absent, z.latch with
  | [], _ => .latched
  | n :: _, false => .notPresent n
  | n :: _, true => if x.preferLatch then .latched else .notPresent n

/-- The phases faulted in this zone and in an ACTIVE check zone (R123). -/
def confirmedPhases (x : ZoneInputs) (z : ZoneRecord) : List Phase :=
  [Phase.a, Phase.b, Phase.c].filter fun p => (z.phases.get p).faulted && x.czFaulted.get p && x.czActive

/-- Step 7 on a complete row without a blocking condition (R122 to R124). -/
def completeRow (c : Configuration) (x : ZoneInputs) (z : ZoneRecord) : ZoneRecord × ZoneReason :=
  match z.state with
  | .inactive | .blocked => ({ z with state := .arming, armingCount := 1 }, .complete)
  | .arming =>
    if c.armRounds ≤ z.armingCount + 1 then ({ z with state := .active, armingCount := 0, gapCount := 0 }, .armed)
    else ({ z with armingCount := z.armingCount + 1 }, .complete)
  | .active =>
    match x.check, confirmedPhases x z with
    | false, p :: _ => ({ z with state := .tripped, gapCount := 0, clearRun := 0 }, .fault p)
    | _, _ => ({ z with gapCount := 0 }, .complete)
  | .tripped =>
    if x.check then (z, .complete)
    else if z.phases.any PhaseRecord.faulted then ({ z with gapCount := 0, clearRun := 0 }, .complete)
    else if c.w ≤ z.clearRun + 1 then ({ z with state := .active, gapCount := 0, clearRun := 0 }, .clear)
    else ({ z with gapCount := 0, clearRun := z.clearRun + 1 }, .complete)

/-- Step 7 on an incomplete row without a blocking condition (R125). -/
def incompleteRow (z : ZoneRecord) : ZoneRecord × ZoneReason :=
  match z.state with
  | .inactive | .blocked => (z, .gaps)
  | .arming => ({ z with armingCount := 0 }, .gaps)
  | .active =>
    if 2 ≤ z.gapCount + 1 then (z.outOf .blocked, .gaps) else ({ z with gapCount := z.gapCount + 1 }, .gaps)
  | .tripped => ({ z with gapCount := bump 2 z.gapCount }, .gaps)

/-- Step 7: the state transition, with the reason it would give a change (R121 to R126). -/
def stepState (c : Configuration) (x : ZoneInputs) (z : ZoneRecord) : ZoneRecord × ZoneReason :=
  if x.members.isEmpty then (z.outOf .inactive, .empty)
  else if z.latch || !x.absent.isEmpty then (z.outOf .blocked, blockReason x z)
  else if x.complete then completeRow c x z
  else incompleteRow z

/-- INACTIVE or BLOCKED: the states whose entry clears the windows (R119). -/
def ZoneState.outOfService : ZoneState → Bool
  | .inactive | .blocked => true
  | _ => false

/-- What one zone's steps at a close come to. -/
structure ZoneOutcome where
  zone : ZoneRecord
  /-- The reason of the state change made in step 7, if it made one. -/
  reason : Option ZoneReason
  /-- The lowest station whose request released the latch (R131). -/
  released : Option Nat
  /-- The phase and O of SUPERVISION_LATCH (R130). -/
  latched : Option (Phase × Nat)
deriving DecidableEq, Repr

/-- The record before step 4: steps 2 and 3. -/
def zoneMeasured (c : Configuration) (x : ZoneInputs) (z : ZoneRecord) : ZoneRecord :=
  stepQuantities c x (stepMembers x z)

/-- The record before the latch can be set: step 4 and the runs of step 5. -/
def zoneSupervised (c : Configuration) (x : ZoneInputs) (z : ZoneRecord) : ZoneRecord :=
  stepRuns c x (stepRelease c x (zoneMeasured c x z))

/-- The record before step 7. -/
def zoneJudged (c : Configuration) (x : ZoneInputs) (z : ZoneRecord) : ZoneRecord :=
  stepJudge c x (stepLatch c x (zoneSupervised c x z))

/-- One zone taken through steps 2 to 7 (R120). -/
def zoneSteps (c : Configuration) (x : ZoneInputs) (z : ZoneRecord) : ZoneOutcome :=
  let z5 := zoneSupervised c x z
  let z6 := zoneJudged c x z
  let z7 := stepState c x z6
  { zone := if z7.1.state.outOfService ∧ z7.1.state ≠ z6.state then z7.1.clearWindows else z7.1
    reason := if z7.1.state = z6.state then none else some z7.2
    released := releaseBy c x (zoneMeasured c x z)
    latched := (namedPhase x.pickPhase (runsReached c x z5)).map (fun p => (p, (z5.phases.get p).operate.getD 0)) }

/-! ## Merged mode (R127 to R129) -/

/-- For the combination an INACTIVE zone counts as ACTIVE when the other is not INACTIVE (R127). -/
def mergeView (z other : ZoneState) : ZoneState := if z = .inactive ∧ other ≠ .inactive then .active else z

/-- The combined state of A and B (R127). -/
def mergeState (a b : ZoneState) : ZoneState :=
  let va := mergeView a b
  let vb := mergeView b a
  if va = .inactive ∧ vb = .inactive then .inactive
  else if va = .blocked ∨ vb = .blocked then .blocked
  else if va = .arming ∨ vb = .arming then .arming
  else if va = .tripped ∨ vb = .tripped then .tripped
  else .active

/-- The combined arming count: the smaller among the zones in ARMING (R127). R127 gives no count for a combined state other than
ARMING: 0 there is the model's choice (log entry 29). -/
def mergeArming (a b : ZoneRecord) : Nat :=
  if mergeState a.state b.state = .arming then
    if a.state = .arming ∧ b.state = .arming then min a.armingCount b.armingCount
    else if a.state = .arming then a.armingCount
    else b.armingCount
  else 0

/-- A gap count for the combination, an INACTIVE zone's taken as 0 (R127). -/
def mergeGap (z : ZoneRecord) : Nat := if z.state = .inactive then 0 else z.gapCount

/-- The combined record of A and B (R127). -/
def mergeRecords (a b : ZoneRecord) : ZoneRecord :=
  ZoneRecord.clearWindows
    { state := mergeState a.state b.state, armingCount := mergeArming a b, gapCount := max (mergeGap a) (mergeGap b),
      clearRun := 0, latch := a.latch || b.latch, phases := a.phases }

/-! ## All three zones -/

/-- The outcomes of one close, with the records A and B started it with after any combination (R120). -/
structure ZonesOutcome where
  cz : ZoneOutcome
  a : ZoneOutcome
  b : ZoneOutcome
  beforeA : ZoneRecord
  beforeB : ZoneRecord
  combined : Option ZoneReason
deriving DecidableEq, Repr

/-- The inputs of CZ. -/
def czInputs (s : State) (row : Row) : ZoneInputs :=
  { check := true, members := s.replica.held.setCZ, previous := s.replica.previous.setCZ, stuck := s.replica.held.stuck.cz,
    row := row, entries := s.membership.entries, asks := fun r => r.cz, czActive := false, czFaulted := ⟨false, false, false⟩,
    pickPhase := Config.latchPhase s.freeIndex 2, preferLatch := Config.blockedByLatch s.freeIndex 2 }

/-- The inputs of zone A; in MERGED mode a request that names A or B concerns the merged record (R128). -/
def aInputs (s : State) (row : Row) (cz : ZoneRecord) : ZoneInputs :=
  { check := false, members := s.replica.held.setA, previous := s.replica.previous.setA, stuck := s.replica.held.stuck.a,
    row := row, entries := s.membership.entries,
    asks := fun r => if s.replica.held.merged then r.a || r.b else r.a,
    czActive := cz.state == .active, czFaulted := cz.phases.map PhaseRecord.faulted,
    pickPhase := Config.latchPhase s.freeIndex 0, preferLatch := Config.blockedByLatch s.freeIndex 0 }

/-- The inputs of zone B. -/
def bInputs (s : State) (row : Row) (cz : ZoneRecord) : ZoneInputs :=
  { check := false, members := s.replica.held.setB, previous := s.replica.previous.setB, stuck := s.replica.held.stuck.b,
    row := row, entries := s.membership.entries, asks := fun r => r.b,
    czActive := cz.state == .active, czFaulted := cz.phases.map PhaseRecord.faulted,
    pickPhase := Config.latchPhase s.freeIndex 1, preferLatch := Config.blockedByLatch s.freeIndex 1 }

/-- The records of A and B after step 1, and the reason of the combination if there was one (R127, R129). -/
def stepCombine (s : State) : ZoneRecord × ZoneRecord × Option ZoneReason :=
  match s.zones.merged, s.replica.held.merged with
  | false, true => (mergeRecords s.zones.a s.zones.b, mergeRecords s.zones.a s.zones.b, some .merge)
  | true, false => (s.zones.a.clearWindows, s.zones.a.clearWindows, some .split)
  | _, _ => (s.zones.a, s.zones.b, none)

/-- The update of the three zones, in the order CZ, A, B; in MERGED mode B takes the values of A (R120, R128). -/
def zonesOutcome (c : Configuration) (s : State) (row : Row) : ZonesOutcome :=
  let cz := zoneSteps c (czInputs s row) s.zones.cz
  let ab := stepCombine s
  let a := zoneSteps c (aInputs s row cz.zone) ab.1
  let b := if s.replica.held.merged then a else zoneSteps c (bInputs s row cz.zone) ab.2.1
  { cz := cz, a := a, b := b, beforeA := ab.1, beforeB := ab.2.1, combined := ab.2.2 }

/-- The outcome of a zone. -/
def ZonesOutcome.get (o : ZonesOutcome) : Zone → ZoneOutcome
  | .a => o.a
  | .b => o.b
  | .cz => o.cz

/-- The record of a zone. -/
def ZoneEvaluator.get (z : ZoneEvaluator) : Zone → ZoneRecord
  | .a => z.a
  | .b => z.b
  | .cz => z.cz

/-- The reason of a zone's change over the close: the step that set its final state (R126). -/
def ZonesOutcome.reason (o : ZonesOutcome) (z : Zone) : Option ZoneReason :=
  match z, (o.get z).reason with
  | _, some r => some r
  | .cz, none => none
  | .a, none => o.combined
  | .b, none => o.combined

/-- What a reason adds to the detail (R126). -/
def ZoneReason.extra : ZoneReason → List Byte
  | .notPresent n => [byte n]
  | .fault p => [byte (phaseCode p)]
  | _ => []

/-- The ZONE_STATE record of a change (R126). -/
def zoneDraft (z : Zone) (old new : ZoneState) (reason : ZoneReason) : Draft :=
  { kind := .zoneState, subject := zoneCode z,
    detail := [byte old.code, byte new.code, byte reason.code] ++ reason.extra }

/-- The records of one zone at a close: SUPERVISION_RELEASE, SUPERVISION_LATCH, ZONE_STATE (R126). -/
def zoneDrafts (start : ZoneEvaluator) (o : ZonesOutcome) (z : Zone) : List Draft :=
  (match (o.get z).released with
    | some n => [{ kind := .supervisionRelease, subject := zoneCode z, detail := [byte n] }]
    | none => []) ++
  (match (o.get z).latched with
    | some (p, q) => [{ kind := .supervisionLatch, subject := zoneCode z, detail := byte (phaseCode p) :: bytes4 q }]
    | none => []) ++
  (if (start.get z).state = (o.get z).zone.state then []
   else
    match o.reason z with
    | some r => [zoneDraft z (start.get z).state (o.get z).zone.state r]
    | none => [])

/-- The verdict (R132). -/
def verdictOf (a b : ZoneRecord) : BusSet := ⟨a.state == .tripped, b.state == .tripped⟩

/-- The Zone Evaluator at the close of a row (R120). -/
def State.zonesClose (s : State) (c : Configuration) : State :=
  match s.table.newest with
  | none => s
  | some row =>
    let o := zonesOutcome c s row
    let s1 : State :=
      { s with
        zones := { a := o.a.zone, b := o.b.zone, cz := o.cz.zone, merged := s.replica.held.merged,
                   verdict := verdictOf o.a.zone o.b.zone }
        freeIndex := s.freeIndex + 1 }
    s1.offerAll (zoneDrafts s.zones o .cz ++ zoneDrafts s.zones o .a ++ zoneDrafts s.zones o .b)

/-! ## Recapture (R114) -/

/-- A zone record at a recapture. -/
def ZoneRecord.recapture (z : ZoneRecord) : ZoneRecord :=
  ({ z with
      state := if z.state = .inactive then .inactive else .blocked, armingCount := 0, gapCount := 0, clearRun := 0 } :
    ZoneRecord).clearWindows

/-- The Zone Evaluator at a recapture; latches and mode keep their values. -/
def ZoneEvaluator.recapture (z : ZoneEvaluator) : ZoneEvaluator :=
  { z with a := z.a.recapture, b := z.b.recapture, cz := z.cz.recapture, verdict := BusSet.empty }

/-- The ZONE_STATE record of a zone at a recapture, if its state changes. -/
def recaptureDraft (z : Zone) (old : ZoneRecord) : List Draft :=
  if old.recapture.state = old.state then [] else [zoneDraft z old.state old.recapture.state .recapture]

end Sys2Proof.Machine
end

