-- ==== Sys2Proof/Machine/Table.lean ====
section
/-! DEFINITION. The Round Table: the own contribution, arrivals, returns and the change of the rows' roles at a close
(R56 to R74), with the recapture that an arrival can cause (R12 to R14). -/

namespace Sys2Proof.Machine

/-- One of the table's counters changed. -/
def State.countTable (s : State) (f : TableCounters → TableCounters) : State :=
  { s with table := { s.table with counters := f s.table.counters } }

/-- The open row changed. -/
def State.mapOpen (s : State) (f : Row → Row) : State := { s with table := { s.table with openRow := s.table.openRow.map f } }

/-! ## The own contribution (R58, R59) -/

/-- The content of the own contribution, from what each source holds now (R58). -/
def State.ownContent (s : State) (currents : Tri Int) (quality : Quality) (positions : Positions) : Content :=
  { sender := if s.life.state = .present then .present else .joining
    quality := quality
    eUp := s.ring.two.up
    wUp := s.ring.one.up
    status := { positions := positions, bf := s.trip.bfFlag }
    tripped := if s.life.state = .present then s.zones.verdict else BusSet.empty
    release := s.life.pendingRelease
    lowest := s.lowestPresent
    currents := currents }

/-- The own slot of the open row can take the contribution of round k (R59). -/
def State.ownSlotFree (s : State) (c : Configuration) (k : Round) : Bool :=
  match s.table.openRow with
  | some r => r.round == k && r.body c.station == .empty
  | none => false

/-- A copy of the own contribution on each out-lane, lane 1 first (R59). -/
def State.sendOwn (s : State) (f : QueuedFrame) : State := (s.enqueue .one f).enqueue .two f

/-- The own contribution for round k is built, placed and enqueued, or discarded (R58, R59); the pending release set is
emptied as it is taken. -/
def State.ownBuild (s : State) (c : Configuration) (k : Round) (currents : Tri Int) (quality : Quality)
    (positions : Positions) : State :=
  let content := s.ownContent currents quality positions
  let taken : State := { s with life := { s.life with pendingRelease := ZoneSet.empty } }
  if s.ownSlotFree c k then
    let placed := (taken.mapOpen (fun r => r.setBody c.station (.filled content none))).mapEntry c.station
      (fun e => { e with lastKnown := some content.status })
    placed.sendOwn { source := .own, bytes := contribBytes c.station k content (s.life.checksum.getD 0) }
  else taken

/-! ## Recapture (R12 to R14) -/

/-- The test of R12, for an OUT_OF_WINDOW arrival already taken by the Membership Table. -/
def State.recaptureTest (s : State) (c : Configuration) (f : Contrib) : Bool :=
  s.life.state == .present && f.content.sender == .present && f.origin != c.station &&
  (match s.entry f.origin with
    | some e => e.outOfWindowRun == c.lostRounds
    | none => false) &&
  decide (f.content.lowest < s.lowestPresent)

/-- A recapture is postponed while the output is energised or the BF timer is not IDLE (R13). -/
def State.recapturePostponed (s : State) : Bool := s.trip.energised || s.trip.bfTimer != .idle

/-- The records of a recapture: RECAPTURE, and ZONE_STATE for each zone whose state it changes (R14, R114). -/
def recaptureDrafts (s : State) (n : Nat) (r : Round) (phase : Nat) : List (List Draft) :=
  [ [{ kind := .recapture, subject := n, detail := bytes2 s.timer.round.toNat ++ bytes2 r.toNat ++ bytes2 phase }],
    recaptureDraft .cz s.zones.cz, recaptureDraft .a s.zones.a, recaptureDraft .b s.zones.b ]

/-- A recapture from a CONTRIB of origin n, round r and this age (R14). -/
def State.recapture (s : State) (c : Configuration) (n : Nat) (r : Round) (age : Nat) : State :=
  let phase := capturedPhase c age
  let s1 := s.adopt c r phase
  let s2 : State := { s1 with zones := s.zones.recapture, membership := s.membership.clearRuns }
  s2.offerGroups (recaptureDrafts s n r phase)

/-! ## Arrivals from peers (R60 to R64) -/

/-- A CONTRIB with another shared checksum (R60, R83). -/
def State.refuseArrival (s : State) (f : Contrib) (e : Entry) : State :=
  let s1 := s.changeEntry e Entry.refuse
  if f.content.sender = .present then s1.mapOpen (fun r => { r with conflict := true }) else s1

/-- An arrival is STALE (R61). -/
def Entry.staleFor (e : Entry) (r : Round) : Bool :=
  e.state == .left && match e.leaveRound with
    | some l => !roundAfter r l
    | none => false

/-- A row holds this round. -/
def holdsRound (row : Option Row) (r : Round) : Bool :=
  match row with
  | some x => x.round == r
  | none => false

/-- An arrival accepted into its EMPTY slot (R63, R82). -/
def State.acceptArrival (s : State) (c : Configuration) (l : Lane) (f : Contrib) : State :=
  (s.mapOpen (fun r => r.setBody f.origin
    (.filled f.content (some { lane := l, lead := s.leadOf c f.round f.age })))).mapEntry f.origin
    (fun e => { e with lastKnown := some f.content.status })

/-- A second copy that differs (R64). -/
def State.disputeArrival (s : State) (l : Lane) (f : Contrib) : State :=
  ((s.mapOpen (fun r => r.setBody f.origin .disputed)).mapEntry f.origin
    (fun e => { e with disagree := bump8 e.disagree })).offer
    { kind := .copyDisagree, subject := f.origin, detail := bytes2 f.round.toNat ++ [byte (laneCode l)] }

/-- An arrival for the open row offered to its slot (R63, R64). -/
def State.slotArrival (s : State) (c : Configuration) (l : Lane) (f : Contrib) (open_ : Row) : State :=
  match open_.body f.origin with
  | .empty => s.acceptArrival c l f
  | .filled k _ =>
    if k = f.content then s.countTable (fun t => { t with matchedCopies := bump16 t.matchedCopies })
    else s.disputeArrival l f
  | .disputed => s.countTable (fun t => { t with afterDispute := bump16 t.afterDispute })

/-- An OUT_OF_WINDOW arrival: counted, marked, handed to the Membership Table, and in PRESENT to the recapture test
(R62, R88, R12, R13). -/
def State.outOfWindowArrival (s : State) (c : Configuration) (f : Contrib) : State :=
  let s1 := (s.mapOpen (fun r => r.setMark f.origin)).mapEntry f.origin
    (fun e => { e with outOfWindow := bump8 e.outOfWindow, latestLowest := some f.content.lowest })
  if s1.recaptureTest c f && !s1.recapturePostponed then s1.recapture c f.origin f.round f.age else s1

/-- A CONTRIB handed to the Round Table (R60 to R64). -/
def State.contribArrival (s : State) (c : Configuration) (l : Lane) (f : Contrib) : State :=
  match s.entry f.origin with
  | none => s.countTable (fun t => { t with offRoster := bump16 t.offRoster })
  | some e =>
    if s.life.checksum ≠ some f.checksum then s.refuseArrival f e
    else if e.staleFor f.round then s.mapEntry f.origin (fun e => { e with stale := bump8 e.stale })
    else
      match s.table.openRow with
      | some r =>
        if r.round = f.round then s.slotArrival c l f r
        else if holdsRound s.table.newest f.round || holdsRound s.table.older f.round then
          s.mapEntry f.origin (fun e => { e with late := bump8 e.late })
        else s.outOfWindowArrival c f
      | none => s

/-- A CONTRIB handed to the Round Timer in LISTEN: the capture test (R10). -/
def State.captureArrival (s : State) (c : Configuration) (f : Contrib) : State :=
  if c.onRoster f.origin && f.origin != c.station && f.content.sender == .present && s.life.checksum == some f.checksum then
    s.capture c f.origin f.round f.age
  else s

/-! ## Own frames coming back (R65 to R67) -/

/-- An identity clash (R66). -/
def State.identityClash (s : State) (lead : Byte) (r : Round) (l : Lane) : State :=
  let s1 := s.countTable (fun t => { t with identityClashes := bump16 t.identityClashes })
  match s.table.openRow with
  | some row =>
    if row.clash then s1
    else
      (s1.mapOpen (fun r => { r with clash := true })).offer
        { kind := .identityClash, subject := s.ownNumber, detail := [lead] ++ bytes2 r.toNat ++ [byte (laneCode l)] }
  | none => s1

/-- The returned flag of a lane set (R65). -/
def Row.setReturned (r : Row) : Lane → Row
  | .one => { r with returnedOne := true }
  | .two => { r with returnedTwo := true }

/-- A returning own CONTRIB equals the own slot of a row (R65). -/
def returnMatches (c : Configuration) (checksum : Option Round) (row : Row) (f : Contrib) : Bool :=
  row.content c.station == some f.content && checksum == some f.checksum

/-- A returning own-numbered CONTRIB (R65, R66). -/
def State.ownReturn (s : State) (c : Configuration) (l : Lane) (f : Contrib) : State :=
  if holdsRound s.table.openRow f.round then
    if s.table.openRow.any (fun r => returnMatches c s.life.checksum r f) then
      (s.mapOpen (fun r => r.setReturned l)).countTable (fun t => { t with ownReturnsMatched := bump16 t.ownReturnsMatched })
    else s.identityClash leadContrib f.round l
  else if holdsRound s.table.newest f.round then
    if s.table.newest.any (fun r => returnMatches c s.life.checksum r f) then
      s.countTable (fun t => { t with ownReturnsLate := bump16 t.ownReturnsLate })
    else s.identityClash leadContrib f.round l
  else if holdsRound s.table.older f.round then
    if s.table.older.any (fun r => returnMatches c s.life.checksum r f) then
      s.countTable (fun t => { t with ownReturnsLate := bump16 t.ownReturnsLate })
    else s.identityClash leadContrib f.round l
  else if s.table.settling then s.countTable (fun t => { t with strayOwn := bump16 t.strayOwn })
  else s.identityClash leadContrib f.round l

/-- A returning own LEAVE equals the LEAVE record (R67, R187). -/
def leaveMatches (s : State) (f : LeaveFrame) : Bool :=
  s.life.state == .leaving &&
  s.life.leaveRecord == some { round := f.round, reason := f.reason, positions := f.positions } &&
  f.check == (s.life.checksum.getD 0).setWidth 8

/-- A returning own-numbered LEAVE (R67). -/
def State.ownLeaveReturn (s : State) (l : Lane) (f : LeaveFrame) : State :=
  if leaveMatches s f then s.countTable (fun t => { t with ownReturnsMatched := bump16 t.ownReturnsMatched })
  else s.identityClash leadLeave f.round l

/-! ## The close (R68) -/

/-- The rows change roles: the open row becomes the newest closed row and the next round's row opens; the settling
interval ends at this close point (R66, R68). -/
def RoundTable.close (t : RoundTable) : RoundTable :=
  match t.openRow with
  | some r => { t with openRow := some (Row.fresh (r.round + 1)), newest := some r, older := t.newest, settling := false }
  | none => t

end Sys2Proof.Machine
end

