-- ==== Sys2Proof/Machine/Rings.lean ====
section
/-! DEFINITION. The Ring Interface: reception, disposal of good frames, transmission and link health (R34 to R55). -/

namespace Sys2Proof.Machine

/-! ## Lane counters and receivers -/

/-- A lane changed. -/
def State.mapLane (s : State) (l : Lane) (f : LaneState → LaneState) : State := s.setLane l (f (s.lane l))

/-- One of a lane's counters changed. -/
def LaneState.count (x : LaneState) (f : LaneCounters → LaneCounters) : LaneState := { x with counters := f x.counters }

/-- Reception runs in every state but HOLD (R53). -/
def State.receives (s : State) : Bool := s.life.state != .hold

/-- The characters of the frame in progress, with those that have just arrived; none while the receiver looks for no
character (R37). -/
def Receiver.gathered (r : Receiver) (chars : List Byte) : Option (List Byte) :=
  match r with
  | .hunt => some chars
  | .receiving held => some (held ++ chars)
  | .waitMark _ => none

/-- The characters gathered form a frame with this lead byte of which fewer than all characters have arrived. -/
def partialFrame (chars : List Byte) : Bool :=
  match chars with
  | lead :: _ => match frameLength lead with
    | some n => decide (chars.length < n)
    | none => false
  | [] => false

/-! ## Disposal of a good frame (R42 to R44) -/

/-- A good frame that is not own-numbered is tested against the hop limit and forwarded on the out-lane of its lane (R43). -/
def State.forwardFrame (s : State) (l : Lane) (bs : List Byte) : State :=
  if 39 < frameHops bs + 1 then s.mapLane l (fun x => x.count (fun k => { k with hopLimit := bump16 k.hopLimit }))
  else if s.hasRoom l then
    (s.mapLane l (fun x => x.count (fun k => { k with forwarded := bump16 k.forwarded }))).append l
      { source := .copy s.now, bytes := setHops bs (frameHops bs + 1) }
  else s.dropFrame l

/-- A good CONTRIB that is not own-numbered, handed on according to the station state (R44). -/
def State.handContrib (s : State) (l : Lane) (f : Contrib) : State :=
  match s.life.config with
  | none => s
  | some c =>
    match s.life.state with
    | .listen => if s.timer.mode = .numbered then s.contribArrival c l f else s.captureArrival c f
    | .joining | .present | .leaving => s.contribArrival c l f
    | _ => s

/-- A good LEAVE that is not own-numbered, handed on according to the station state (R44). -/
def State.handLeave (s : State) (f : LeaveFrame) : State :=
  match s.life.state with
  | .listen | .joining | .present | .leaving => s.leaveArrival f
  | _ => s

/-- An own-numbered frame is removed from the ring (R42). -/
def State.stripOwn (s : State) (l : Lane) : State :=
  s.mapLane l (fun x => x.count (fun k => { k with ownStripped := bump16 k.ownStripped }))

/-- A good CONTRIB (R42 to R44). -/
def State.goodContrib (s : State) (l : Lane) (bs : List Byte) : State :=
  if frameOrigin bs = s.ownNumber then
    match s.life.config with
    | some c => if s.life.state.working then (s.stripOwn l).ownReturn c l (readContrib bs) else s.stripOwn l
    | none => s.stripOwn l
  else (s.forwardFrame l bs).handContrib l (readContrib bs)

/-- A good LEAVE (R42 to R44). -/
def State.goodLeave (s : State) (l : Lane) (bs : List Byte) : State :=
  if frameOrigin bs = s.ownNumber then
    if s.life.state.working then (s.stripOwn l).ownLeaveReturn l (readLeave bs) else s.stripOwn l
  else (s.forwardFrame l bs).handLeave (readLeave bs)

/-- The CRC check passed: counted, and noted for the health interval; the receiver hunts again (R41). -/
def LaneState.accept (x : LaneState) : LaneState :=
  { x with
    receiver := .hunt, goodSeen := true, counters := { x.counters with goodFrames := bump16 x.counters.goodFrames } }

/-- The CRC check failed; the receiver hunts again (R41). -/
def LaneState.reject (x : LaneState) : LaneState :=
  { x with receiver := .hunt, counters := { x.counters with crcErrors := bump16 x.counters.crcErrors } }

/-- The last expected character of a frame has arrived (R41). -/
def State.frameEnds (s : State) (l : Lane) (bs : List Byte) : State :=
  if crcGood bs then
    if bs.getD 0 0 = leadContrib then (s.mapLane l LaneState.accept).goodContrib l bs
    else (s.mapLane l LaneState.accept).goodLeave l bs
  else s.mapLane l LaneState.reject

/-- Characters of a frame with this lead byte arrive (R38, R39): the frame stays in progress until its last character. -/
def State.frameChars (s : State) (l : Lane) (lead : Byte) (length : Nat) (chars : List Byte) : State :=
  match (s.lane l).receiver.gathered chars with
  | some bs =>
    if s.receives && bs.head? == some lead then
      if bs.length = length then s.frameEnds l bs
      else if bs.length < length then s.mapLane l (fun x => { x with receiver := .receiving bs })
      else s
    else s
  | none => s

/-! ## Reception without a frame (R37 to R40) -/

/-- A well-formed character in HUNT that is no lead byte (R38). -/
def State.unknownLead (s : State) (l : Lane) (c : Byte) : State :=
  if s.receives && (s.lane l).receiver == .hunt && (frameLength c).isNone then
    s.mapLane l (fun x => x.count (fun k => { k with unknownLeads := bump16 k.unknownLeads }))
  else s

/-- A malformed character, not all-space, in HUNT (R38). -/
def State.malformedInHunt (s : State) (l : Lane) : State :=
  if s.receives && (s.lane l).receiver == .hunt then s.mapLane l (fun x => { x with receiver := .waitMark false }) else s

/-- The line has been at mark for one symbol time in WAIT_MARK (R37). -/
def State.backToHunt (s : State) (l : Lane) : State :=
  match s.receives, (s.lane l).receiver with
  | true, .waitMark _ => s.mapLane l (fun x => { x with receiver := .hunt })
  | _, _ => s

/-- A frame is in progress once these characters have arrived. -/
def State.inFrame (s : State) (l : Lane) (chars : List Byte) : Bool :=
  s.receives && match (s.lane l).receiver.gathered chars with
    | some bs => partialFrame bs
    | none => false

/-- A malformed character inside a frame (R39): WAIT_MARK, or HUNT when it was all-space and the line is back at mark. -/
def State.framingError (s : State) (l : Lane) (chars : List Byte) (allSpace : Bool) : State :=
  if s.inFrame l chars then
    s.mapLane l (fun x => { x with
      receiver := if allSpace then .hunt else .waitMark false
      counters := { x.counters with framingErrors := bump16 x.counters.framingErrors } })
  else s

/-- A pause of 10 symbol times inside a frame (R39). -/
def State.truncation (s : State) (l : Lane) (chars : List Byte) : State :=
  if s.inFrame l chars then
    s.mapLane l (fun x => { x with
      receiver := .hunt
      counters := { x.counters with truncatedFrames := bump16 x.counters.truncatedFrames } })
  else s

/-- The characters before a line clear leave the receiver in HUNT or inside a frame. -/
def clearFollows (r : Receiver) (chars : List Byte) : Bool :=
  match r with
  | .hunt => chars.isEmpty || partialFrame chars
  | .receiving held => partialFrame (held ++ chars)
  | .waitMark counted => chars.isEmpty && !counted

/-- The line has been at space for 24 symbol times (R40); a run of space is counted once. -/
def State.lineClearSeen (s : State) (l : Lane) (chars : List Byte) : State :=
  if s.receives && clearFollows (s.lane l).receiver chars then
    s.mapLane l (fun x => { x with
      receiver := .waitMark true
      counters := { x.counters with lineClearsSeen := bump16 x.counters.lineClearsSeen } })
  else s

/-! ## Transmission (R46 to R48) -/

/-- An out-lane whose head frame has been sent: the rest of the queue stays and the gap begins. The frame is counted (R46),
but in HOLD, where the counters are held as they stood at entry (R53, log entry 32). -/
def LaneState.headSent (x : LaneState) (hold : Bool) (rest : List QueuedFrame) : LaneState :=
  { x with
    queue := rest
    transmitter := .gap
    counters := if hold then x.counters else { x.counters with transmitted := bump16 x.counters.transmitted } }

/-- A frame's last stop symbol ends: it leaves the queue, is counted, and the gap begins; an own LEAVE is reported
transmitted (R46, R48). -/
def State.transmissionComplete (s : State) (l : Lane) : State :=
  match (s.lane l).transmitter, (s.lane l).queue with
  | .sending, f :: rest =>
    let s1 := s.mapLane l (fun x => x.headSent (s.life.state == .hold) rest)
    if f.isOwnLeave then s1.report true else s1
  | _, _ => s

/-- The 32nd space symbol of a line clear ends (R46). -/
def State.lineClearEnd (s : State) (l : Lane) : State :=
  if (s.lane l).transmitter = .clearing then s.mapLane l (fun x => { x with transmitter := .gap }) else s

/-- 20 symbol times of gap have passed (R46). -/
def State.gapEnd (s : State) (l : Lane) : State := if (s.lane l).transmitter = .gap then s.serve l else s

/-! ## Link health (R49, R50) -/

/-- An in-lane's health after a check point (R49); the next interval begins. -/
def LaneState.health (x : LaneState) (c : Configuration) : LaneState :=
  let y :=
    if x.up then
      if x.goodSeen then { x with silentRun := 0 }
      else if x.silentRun + 1 < c.linkDownRounds then { x with silentRun := x.silentRun + 1 }
      else { x with up := false, silentRun := 0, liveRun := 0 }
    else if x.goodSeen then
      if x.liveRun = 0 then { x with liveRun := 1 } else { x with up := true, liveRun := 0, silentRun := 0 }
    else { x with liveRun := 0 }
  { y with goodSeen := false }

/-- The record of a change of an in-lane's health (R49). -/
def healthDraft (l : Lane) (old new : LaneState) : List Draft :=
  match old.up, new.up with
  | true, false => [{ kind := .linkDown, subject := laneCode l, detail := [] }]
  | false, true => [{ kind := .linkUp, subject := laneCode l, detail := [] }]
  | _, _ => []

/-- Both in-lanes are DOWN (R50). -/
def State.isolated (s : State) : Bool := !s.ring.one.up && !s.ring.two.up

/-- A lane that has just come UP: a line clear is requested on its partner out-lane (R49). -/
def State.clearPartner (s : State) (l : Lane) (old : LaneState) : State :=
  if !old.up && (s.lane l).up then s.requestClear (partner l) else s

/-- A check point (R49, R50), without its records. -/
def State.checkHealth (s : State) (c : Configuration) : State :=
  let s1 := (s.mapLane .one (fun x => x.health c)).mapLane .two (fun x => x.health c)
  (s1.clearPartner .one s.ring.one).clearPartner .two s.ring.two

/-- The records of a check point: lane 1, lane 2, ISOLATED. R50 states this order for two LINK_DOWNs and ISOLATED; for every other
pair, one with a LINK_UP in it, no rule gives an order, and lane 1 first is the model's: DESIGN CHOICE, log entry 34 (R49, R184). -/
def State.healthDrafts (s : State) (c : Configuration) : List Draft :=
  healthDraft .one s.ring.one (s.ring.one.health c) ++ healthDraft .two s.ring.two (s.ring.two.health c) ++
  (if (s.ring.one.up || s.ring.two.up) && !(s.ring.one.health c).up && !(s.ring.two.health c).up then
    [{ kind := .isolated, subject := s.ownNumber, detail := [] }] else [])

/-- The Ring Interface at the close of a row (R49). -/
def State.healthClose (s : State) (c : Configuration) : State := (s.checkHealth c).offerAll (s.healthDrafts c)

/-! ## The queues at a change of station state (R52, R53) -/

/-- On entry to EXCLUDED the own CONTRIBs that are not being transmitted leave the queue (R52). -/
def LaneState.dropOwn (x : LaneState) : LaneState :=
  match x.transmitter, x.queue with
  | .sending, f :: rest => { x with queue := f :: rest.filter (fun g => !g.isOwnContrib) }
  | _, q => { x with queue := q.filter (fun g => !g.isOwnContrib) }

/-- On entry to HOLD every frame leaves the queue but the one in transmission and own LEAVE frames; the receiver
abandons its frame and stops, and a pending line clear is discarded (R53). -/
def LaneState.intoHold (x : LaneState) : LaneState :=
  { x with
    receiver := .hunt
    clearPending := false
    queue := match x.transmitter, x.queue with
      | .sending, f :: rest => f :: rest.filter QueuedFrame.isOwnLeave
      | _, q => q.filter QueuedFrame.isOwnLeave }

end Sys2Proof.Machine
end

