-- ==== Sys2Proof/Machine/TripUnit.lean ====
section
/-! DEFINITION. The Trip Unit: own peak, causes, trip output and breaker-failure timer (R135 to R155). -/

namespace Sys2Proof.Machine

/-! ## The own peak (R137, R138) -/

/-- A scan result appended to the peak history, which keeps the last W (R137). -/
def TripUnit.appendPeak (t : TripUnit) (w : Nat) (e : PeakEntry) : TripUnit :=
  { t with peakHistory := lastN w (t.peakHistory ++ [e]) }

/-- The largest magnitude of three currents. -/
def largestMagnitude (i : Tri Int) : Nat := max i.a.natAbs (max i.b.natAbs i.c.natAbs)

/-- An entry's contribution to the own peak (R138). -/
def peakOf (c : Configuration) (e : PeakEntry) : Nat :=
  match e.quality with
  | .valid => largestMagnitude e.currents
  | .invalid => c.bfLevel

/-- The own peak (R138). -/
def ownPeakOf (c : Configuration) (h : List PeakEntry) : Nat := (h.map (peakOf c)).foldl max 0

/-! ## Causes (R140 to R142) -/

/-- A slot of a row is FILLED with a published TRIPPED set that contains the zone. -/
def namesZone (row : Option Row) (n : Nat) (z : Bus) : Bool :=
  match row.bind (fun r => r.content n) with
  | some k => k.tripped.has z
  | none => false

/-- A peer entry is a confirmer of a busbar zone (R140). -/
def isConfirmer (c : Configuration) (t : RoundTable) (z : Bus) (e : Entry) : Bool :=
  e.station != c.station && e.closing.state == .present &&
  (namesZone t.newest e.station z || namesZone t.older e.station z)

/-- The number of confirmers of a busbar zone (R140). -/
def confirmers (c : Configuration) (t : RoundTable) (z : Bus) (es : List Entry) : Nat := es.countP (isConfirmer c t z)

/-- The effective confirmation, min(CONFIRM, P) (R141). R135 gives the item the range 0..2, and CONFIRM runs to 39: the model
stores the value of R141 without the bound 2 (the model's choice, log entry 30). -/
def effectiveConfirm (c : Configuration) (es : List Entry) : Nat :=
  min c.confirm (es.countP (fun e => e.station != c.station && e.closing.state == .present))

/-- A station's own trip zones in the replica of the row (R107, R108). -/
def tripZonesIn (r : Replica) (n : Nat) : BusSet :=
  match recordOf r.records n with
  | some x => x.tripZones
  | none => BusSet.empty

/-- The differential zones of the cause set (R141). -/
def differentialCause (c : Configuration) (s : State) : BusSet :=
  let own := tripZonesIn s.replica.held c.station
  let need := effectiveConfirm c s.membership.entries
  { a := own.a && s.zones.a.state == .tripped && decide (need ≤ confirmers c s.table .a s.membership.entries)
    b := own.b && s.zones.b.state == .tripped && decide (need ≤ confirmers c s.table .b s.membership.entries) }

/-- A station is a BF source (R142). -/
def isBfSource (c : Configuration) (s : State) (n : Nat) : Bool :=
  closingPresent s.membership.entries n &&
  (match s.table.newest.bind (fun r => r.content n) with
    | some k => k.status.bf
    | none => false) &&
  (tripZonesIn s.replica.held n).meets (tripZonesIn s.replica.held c.station)

/-- The BF sources, ascending (R142). -/
def bfSourcesOf (c : Configuration) (s : State) : List Nat := (List.range 40).filter (isBfSource c s)

/-- Step 2: the cause set (R139). Outside JOINING and PRESENT it is empty, with both confirmer counts at 0; the effective
confirmation is taken afresh at each close, in those states too (R141, log entry 20). -/
def State.formCauses (s : State) (c : Configuration) : State :=
  let t : TripUnit := { s.trip with effectiveConfirmation := effectiveConfirm c s.membership.entries }
  if s.life.state.contributing then
    { s with
      trip := { t with
        causeZones := differentialCause c s
        bfSources := bfSourcesOf c s
        confirmersA := confirmers c s.table .a s.membership.entries
        confirmersB := confirmers c s.table .b s.membership.entries } }
  else { s with trip := { t with causeZones := BusSet.empty, bfSources := [], confirmersA := 0, confirmersB := 0 } }

/-- The cause set is empty. -/
def TripUnit.noCause (t : TripUnit) : Bool := t.causeZones.isEmpty && t.bfSources.isEmpty

/-! ## The trip output (R143, R144) -/

/-- The trip output is energised at this close (R143). -/
def State.energise (s : State) (c : Configuration) : State :=
  ({ s with trip := { s.trip with energised := true, holdCount := c.tripHold, latched := true } } : State).offer
    { kind := .tripOn, subject := c.station,
      detail := [byte s.trip.causeZones.code, byte s.trip.bfSources.length, byte (s.trip.bfSources.headD noNumber)] }

/-- The hold count falls; with no cause and no hold left the output is de-energised (R144). -/
def State.holdOutput (s : State) (c : Configuration) : State :=
  let hold := s.trip.holdCount - 1
  if s.trip.noCause && hold == 0 then
    ({ s with trip := { s.trip with energised := false, holdCount := 0 } } : State).offer
      { kind := .tripOff, subject := c.station, detail := [1#8] }
  else { s with trip := { s.trip with holdCount := hold } }

/-- Step 3: the trip output (R143, R144). -/
def State.decideOutput (s : State) (c : Configuration) : State :=
  if s.trip.energised then s.holdOutput c
  else if !s.trip.noCause && s.life.state == .present && closingPresent s.membership.entries c.station then s.energise c
  else s

/-! ## The breaker-failure timer (R147 to R149) -/

/-- The code of the start condition (R147). -/
def startCondition (trip initiation : Bool) : Nat := bit 1 trip + bit 2 initiation

/-- A BF timer in IDLE (R147). -/
def State.bfIdle (s : State) (c : Configuration) : State :=
  if (s.trip.energised || s.acquisition.initiation.value) && decide (c.bfLevel ≤ s.trip.ownPeak) then
    ({ s with trip := { s.trip with bfTimer := .running, bfCount := c.bfTime } } : State).offer
      { kind := .bfStart, subject := c.station,
        detail := byte (startCondition s.trip.energised s.acquisition.initiation.value) :: bytes3 s.trip.ownPeak }
  else s

/-- A BF timer in RUNNING (R148). -/
def State.bfRunning (s : State) (c : Configuration) : State :=
  if s.trip.ownPeak < c.bfLevel ∨ (¬ s.trip.energised ∧ ¬ s.acquisition.initiation.value) then
    { s with trip := { s.trip with bfTimer := .idle, bfCount := 0 } }
  else if s.trip.bfCount - 1 = 0 then
    ({ s with trip := { s.trip with bfTimer := .expired, bfCount := 0, bfFlag := true } } : State).offer
      { kind := .bfExpired, subject := c.station, detail := bytes3 s.trip.ownPeak }
  else { s with trip := { s.trip with bfCount := s.trip.bfCount - 1 } }

/-- A BF timer in EXPIRED (R149). -/
def State.bfExpiredStep (s : State) (c : Configuration) : State :=
  if s.trip.ownPeak < c.bfLevel then
    ({ s with trip := { s.trip with bfTimer := .idle, bfCount := 0, bfFlag := false } } : State).offer
      { kind := .bfCleared, subject := c.station, detail := 1#8 :: bytes3 s.trip.ownPeak }
  else s

/-- Step 4: the BF timer, in JOINING and PRESENT (R139). -/
def State.stepBf (s : State) (c : Configuration) : State :=
  if s.life.state.contributing then
    match s.trip.bfTimer with
    | .idle => s.bfIdle c
    | .running => s.bfRunning c
    | .expired => s.bfExpiredStep c
  else s

/-- Step 1: the own peak (R138). -/
def State.takePeak (s : State) (c : Configuration) : State :=
  { s with trip := { s.trip with ownPeak := ownPeakOf c s.trip.peakHistory } }

/-- The Trip Unit at the close of a row (R139). -/
def State.tripClose (s : State) (c : Configuration) : State :=
  (((s.takePeak c).formCauses c).decideOutput c).stepBf c

end Sys2Proof.Machine
end

