-- ==== Sys2Proof/Machine/Life.lean ====
section
/-! DEFINITION. The Life-Cycle Controller and the Supply Monitor: resets, the loading of an image, the decision at each close,
exclusion and HOLD (R156 to R172). -/

namespace Sys2Proof.Machine

/-! ## Resets (R157) -/

/-- What a reset leaves of the Event List before its RESET record: nothing after a POWER-ON, everything otherwise (R185). -/
def EventList.afterReset (e : EventList) (cause : ResetCause) : EventList :=
  match cause with
  | .powerOn => { records := [], lost := 0 }
  | .supplyRestore | .commandedRestart => e

/-- A reset takes effect on every block, and RESET is the first record offered after it (R157). -/
def State.resetBy (s : State) (cause : ResetCause) (straps : Straps) : State :=
  ({ s with
      powered := true
      timer := RoundTimer.initial
      acquisition := Acquisition.initial
      ring := Ring.initial
      table := RoundTable.initial
      membership := Membership.initial
      replica := ReplicaUnit.initial
      zones := ZoneEvaluator.initial
      trip := TripUnit.initial
      life := LifeCycle.initial cause straps.toNat
      supply := SupplyMonitor.initial
      link := Link.initial
      events := s.events.afterReset cause } : State).offer
    { kind := .reset, subject := straps.toNat, detail := [byte cause.code] }

/-! ## Supply levels (R169, R171) -/

/-- The watched level in mV: the start level, or the trip level while the ready flag is set (R169). -/
def State.watchedLevel (s : State) : Nat :=
  match s.supply.ready, s.life.config with
  | true, some c => 2550 + 40 * c.supplyLevel
  | _, _ => 2700

/-! ## The end of the configuration read (R159 to R161) -/

/-- The effective count of every phase is COUNT_M once the image is loaded (R114). -/
def ZoneRecord.withCount (n : Nat) (z : ZoneRecord) : ZoneRecord :=
  { z with phases := z.phases.map (fun p => { p with effectiveCount := n }) }

/-- The blocks take the parameters of the image in force (R76, R114, R159, R161): the entries are made, the timer enters
LOCAL with phase and local round count 0, and the first health interval begins. -/
def State.loadImage (s : State) (c : Configuration) (checksum : Round) : State :=
  { s with
    life := { s.life with config := some c, checksum := some checksum, lastCheck := some .good, stageCount := 0 }
    membership := { s.membership with entries := c.roster.map Entry.fresh }
    zones := { s.zones with
      a := s.zones.a.withCount c.countM, b := s.zones.b.withCount c.countM, cz := s.zones.cz.withCount c.countM }
    timer := { s.timer with mode := .localMarks, phase := 0, localCount := 0, roundLength := c.period }
    ring := { one := { s.ring.one with goodSeen := false }, two := { s.ring.two with goodSeen := false } } }

/-- The entry to STABILISE, with the first local mark at once (R1, R36, R161). -/
def State.enterStabilise (s : State) (b : List Byte) (l : BayLines) : State :=
  let s1 := (s.loadImage (configOf b) (sharedChecksum b)).transition .stabilise .imageGood []
  let s2 := (s1.requestClear .one).requestClear .two
  ({ s2 with timer := s2.timer.localMark s2.now } : State).acquireMark l .localMark

/-- The entry to CONFIG_FAULT, with the first bare mark at once (R1, R160). -/
def State.enterConfigFault (s : State) (b : List Byte) (r : CheckResult) (l : BayLines) : State :=
  let s1 : State :=
    { s with
      life := { s.life with lastCheck := some r }
      timer := { s.timer with mode := .bare, phase := 0 } }
  let s2 := s1.enter .configFault [[{ kind := .configFault, subject := s.life.strap, detail := faultDetail b r }]]
  ({ s2 with timer := s2.timer.bareMark s2.now } : State).acquireMark l .bare

/-- The read of the image ends (R158, R159). -/
def State.configReadEnd (s : State) (b : List Byte) (l : BayLines) : State :=
  if s.life.state = .start ∧ b.length = readLength b then
    match imageCheck s.life.strap b with
    | .good => s.enterStabilise b l
    | r => s.enterConfigFault b r l
  else s

/-! ## The decision at each close (R163, R164) -/

/-- The station enters EXCLUDED: its waiting own CONTRIBs leave the queues (R52, R168). -/
def State.exclude (s : State) (reason : StationReason) : State :=
  let s1 : State := { s with ring := { one := s.ring.one.dropOwn, two := s.ring.two.dropOwn } }
  s1.transition .excluded reason [byte s.life.clashCount, byte s.life.conflictCount]

/-- The station enters PRESENT (R163). -/
def State.promote (s : State) : State :=
  ({ s with life := { s.life with joinCount := 0, conflictCount := 0 } } : State).transition .present .promoted []

/-- The counts of JOINING, updated from the flags of the closed row in the order of R163. -/
def LifeCycle.joiningCounts (x : LifeCycle) (c : Configuration) (row : Row) : LifeCycle :=
  { x with
    clashCount := if row.clash then bump 3 x.clashCount else 0
    conflictCount := if row.conflict then bump c.joinRounds x.conflictCount else 0
    joinCount :=
      if !row.conflict && (row.returnedOne || row.returnedTwo) then bump c.joinRounds x.joinCount else 0 }

/-- The Controller at a close in JOINING (R163). -/
def State.joiningClose (s : State) (c : Configuration) (row : Row) : State :=
  let s1 : State := { s with life := s.life.joiningCounts c row }
  if s1.life.clashCount = 3 then s1.exclude .clash
  else if s1.life.conflictCount = c.joinRounds then s1.exclude .conflict
  else if s1.life.joinCount = c.joinRounds then s1.promote
  else s1

/-- The Controller at a close in PRESENT (R164). -/
def State.presentClose (s : State) (row : Row) : State :=
  let s1 : State := { s with life := { s.life with clashCount := if row.clash then bump 3 s.life.clashCount else 0 } }
  if s1.life.clashCount = 3 then s1.exclude .clash else s1

/-- The Controller at the close of a row (R163, R164). -/
def State.controllerClose (s : State) (c : Configuration) : State :=
  match s.table.newest with
  | none => s
  | some row =>
    match s.life.state with
    | .joining => s.joiningClose c row
    | .present => s.presentClose row
    | _ => s

/-! ## HOLD (R170) -/

/-- The blocks on entry to HOLD: the timer stops with its round number and phase (R1), the queues are cut back and
reception stops (R53), a pending scan is discarded (R22). -/
def State.stopForHold (s : State) : State :=
  { s with
    timer := { s.timer with mode := .stopped }
    ring := { one := s.ring.one.intoHold, two := s.ring.two.intoHold }
    acquisition := { s.acquisition with pendingScan := none }
    supply := { s.supply with low := true } }

/-- Supply LOW in STABILISE or LISTEN: the stage count and any capture are lost (R161); the round number, the phase and the
rows stay as R1 and R72 hold them (log entry 31). -/
def State.abandonStart (s : State) : State :=
  if s.life.state = .stabilise ∨ s.life.state = .listen then
    { s with
      life := { s.life with stageCount := 0 }
      timer := { s.timer with captured := false, captureMark := none } }
  else s

/-- The SUPPLY_HOLD record (R170). -/
def holdDraft (s : State) : Draft :=
  { kind := .supplyHold, subject := s.ownNumber, detail := [byte s.life.state.code, byte (bit 1 s.supply.ready)] }

/-- A LOW report sends the station to HOLD; from JOINING and PRESENT with a SUPPLY LEAVE on each out-lane, after the
removal of the queued frames (R170, R53). -/
def State.enterHold (s : State) : State :=
  let leave := s.leaveFrame leaveSupply
  let s1 := s.abandonStart.stopForHold.enter .hold [[holdDraft s]]
  if s.life.state.contributing then (s1.enqueueLeave .one leave).enqueueLeave .two leave else s1

/-- The supply has stayed below the watched level for 50 µs (R169, R170). -/
def State.supplyLow (s : State) (millivolts : Nat) : State :=
  if !s.supply.low && decide (millivolts < s.watchedLevel) then s.enterHold else s

/-- The supply has stayed at or above the restore level for 1 ms (R171). -/
def State.supplyRestore (s : State) (straps : Straps) (millivolts : Nat) : State :=
  if s.supply.low && decide (s.watchedLevel + 80 ≤ millivolts) then s.resetBy .supplyRestore straps else s

/-! ## LEAVE (R151, R165) -/

/-- A LEAVE request is accepted in PRESENT (R151). -/
def TripUnit.admitsLeave (t : TripUnit) : Bool := !t.energised && t.bfTimer == .idle && !t.bfFlag

/-- An accepted LEAVE request: the LEAVE frame is built, stored and enqueued on both out-lanes (R165, R166). -/
def State.acceptLeave (s : State) : State :=
  let leave := s.leaveFrame leaveCommanded
  let s1 : State :=
    { s with
      life := { s.life with
        leaveRecord := some { round := s.timer.round, reason := leaveCommanded, positions := s.acquisition.positions }
        leaveReports := 0
        leaveTransmitted := 0
        joinCount := 0
        conflictCount := 0
        clashCount := 0 } }
  ((s1.transition .leaving .commanded []).enqueueLeave .one leave).enqueueLeave .two leave

end Sys2Proof.Machine
end

