-- ==== Sys2Proof/Machine/Reports.lean ====
section
/-! DEFINITION. The payloads that report the station over the maintenance line: STATUS, ROUND, MEMBERS and the event records
(R180, R188, 11_formats.md sections 11.3 and 11.4). -/

namespace Sys2Proof.Machine

/-! ## STATUS (R180) -/

/-- A lane's eleven counters in the order of R55. -/
def LaneCounters.bytes (k : LaneCounters) : List Byte :=
  [k.goodFrames, k.crcErrors, k.framingErrors, k.truncatedFrames, k.unknownLeads, k.lineClearsSeen, k.ownStripped, k.hopLimit,
    k.forwarded, k.queueFull, k.transmitted].flatMap bytes2

/-- The table's seven counters in the order of R74. -/
def TableCounters.bytes (k : TableCounters) : List Byte :=
  [k.offRoster, k.matchedCopies, k.afterDispute, k.ownReturnsMatched, k.ownReturnsLate, k.identityClashes, k.strayOwn].flatMap bytes2

/-- The link's six counters in the order of R173. -/
def LinkCounters.bytes (k : LinkCounters) : List Byte :=
  [k.crcErrors, k.framingErrors, k.truncatedRequests, k.lengthErrors, k.overruns, k.abandonedResponses].flatMap bytes2

/-- Bytes 1 to 13: the Life-Cycle Controller, the Supply Monitor and the round number (R172, R17). -/
def statusLife (s : State) : List Byte :=
  [byte s.life.state.code, byte s.life.resetCause.code, byte s.life.strap,
    byte ((s.life.lastCheck.map CheckResult.code).getD noNumber)] ++
  bytes2 (s.life.checksum.getD 0).toNat ++
  [byte s.life.stageCount, byte s.life.joinCount, byte s.life.conflictCount, byte s.life.clashCount,
    byte (bit 1 s.supply.ready + bit 2 s.supply.low)] ++
  bytes2 s.timer.round.toNat

/-- Bytes 14 to 28: the Acquisition Unit (R33). -/
def statusAcquisition (a : Acquisition) : List Byte :=
  [byte (bit 1 (a.quality == .invalid)), byte a.missRun, byte a.goodRun] ++ signed16 (a.ref.getD 0) ++
  signed24 ((a.currents.map Tri.a).getD 0) ++ signed24 ((a.currents.map Tri.b).getD 0) ++
  signed24 ((a.currents.map Tri.c).getD 0) ++
  [byte (a.isoA.value.code + 4 * a.isoB.value.code + 16 * a.breaker.value.code + bit 64 a.initiation.value)]

/-- Bytes 29 to 73: the lanes (R55). Lane 1's in-lane is W-in, lane 2's is E-in (R34). -/
def statusRing (r : Ring) : List Byte :=
  [byte (bit 1 r.one.up + bit 2 r.two.up + bit 4 (!r.one.up && !r.two.up))] ++ r.one.counters.bytes ++ r.two.counters.bytes

/-- Bytes 74 to 91: the Round Table's counters, the Membership Table and the replica (R74, R92, R112). -/
def statusRows (s : State) : List Byte :=
  s.table.counters.bytes ++ [byte s.lowestPresent] ++ bytes2 s.membership.discardedLeaves ++
  [byte (bit 1 s.replica.held.merged + 2 * (tripZonesIn s.replica.held s.ownNumber).code +
    bit 8 s.replica.held.round.isSome)]

/-- Bytes 92 to 95: the zones (R134). -/
def statusZones (z : ZoneEvaluator) : List Byte :=
  [byte z.a.state.code, byte z.b.state.code, byte z.cz.state.code,
    byte (bit 1 z.a.latch + bit 2 z.b.latch + bit 4 z.cz.latch + bit 8 z.merged + 16 * z.verdict.code)]

/-- Bytes 96 to 112: the Trip Unit (R155). -/
def statusTrip (t : TripUnit) : List Byte :=
  [byte (bit 1 t.energised + bit 2 t.latched + 4 * t.bfTimer.code + bit 16 t.bfFlag), byte t.holdCount,
    byte t.causeZones.code, byte t.bfSources.length] ++
  stationBitmap (fun n => t.bfSources.contains n) ++
  [byte t.confirmersA, byte t.confirmersB, byte t.effectiveConfirmation] ++ bytes2 t.bfCount ++ bytes3 t.ownPeak

/-- The 127 bytes of a STATUS report (section 11.3). -/
def statusReport (s : State) : List Byte :=
  statusLife s ++ statusAcquisition s.acquisition ++ statusRing s.ring ++ statusRows s ++ statusZones s.zones ++
  statusTrip s.trip ++ s.link.counters.bytes ++ [byte s.events.records.length] ++ bytes2 s.events.lost

/-! ## ROUND (R180) -/

/-- The numbers of the couplers, in roster order. -/
def couplersOf (config : Option Configuration) : List Nat :=
  match config with
  | some c => (c.roster.filter (fun e => e.kind != .feeder)).map RosterEntry.station
  | none => []

/-- A coupler's two bytes; before the first formation both flags are 0 (log entry 22). -/
def couplerBytes (r : Replica) (n : Option Nat) : List Byte :=
  match n with
  | some k =>
    match recordOf r.records k with
    | some x => [byte k, byte (bit 1 x.released + bit 2 x.counted)]
    | none => [byte k, 0]
  | none => [byte noNumber, 0]

/-- A member set's ten bytes: its members, then those of sign −1. -/
def memberBytes (ms : List Member) : List Byte :=
  stationBitmap (fun n => ms.any (fun m => m.station == n)) ++
  stationBitmap (fun n => ms.any (fun m => m.station == n && m.sign == .minus))

/-- A phase's 14 bytes. -/
def PhaseRecord.bytes (p : PhaseRecord) : List Byte :=
  [byte (bit 1 (p.operate.isSome && p.restraint.isSome) + bit 2 (p.condition == some true) + bit 4 p.faulted)] ++
  bytes4 (p.operate.getD 0) ++ bytes4 (p.restraint.getD 0) ++
  [byte (16 * p.window.count true + p.window.length), byte p.markHold, byte p.effectiveCount] ++ bytes2 p.supervisionRun

/-- A zone record's 46 bytes. -/
def ZoneRecord.bytes (z : ZoneRecord) : List Byte :=
  [byte z.state.code, byte z.armingCount, byte z.clearRun, byte (z.gapCount + bit 4 z.latch)] ++
  z.phases.a.bytes ++ z.phases.b.bytes ++ z.phases.c.bytes

/-- The 176 bytes of a ROUND report (R112, R134, section 11.3). -/
def roundReport (s : State) : List Byte :=
  let r := s.replica.held
  let couplers := couplersOf s.life.config
  [byte (bit 1 r.round.isSome + bit 2 r.merged)] ++ bytes2 (r.round.getD 0).toNat ++ [byte r.stuck.code] ++
  couplerBytes r couplers[0]? ++ couplerBytes r couplers[1]? ++
  memberBytes r.setA ++ memberBytes r.setB ++ memberBytes r.setCZ ++ s.zones.a.bytes ++ s.zones.b.bytes ++ s.zones.cz.bytes

/-! ## MEMBERS (R180) -/

/-- An entry's six bytes. -/
def Entry.bytes (e : Entry) : List Byte :=
  [byte (128 + bit 64 (e.kind != .feeder) + e.state.code),
    (match e.lastKnown with
      | some b => byte (128 + b.positions.code + bit 64 b.bf)
      | none => 0),
    byte e.late, byte e.outOfWindow, byte e.disagree, byte e.stale]

/-- The 240 bytes of a MEMBERS report (R92, section 11.3). -/
def membersReport (s : State) : List Byte :=
  (List.range 40).flatMap fun n => match s.entry n with
    | some e => e.bytes
    | none => [0, 0, 0, 0, 0, 0]

/-! ## EVENTS (R188) -/

/-- A record as the EVENTS response carries it. -/
def EventRecord.bytes (r : EventRecord) : List Byte :=
  [byte r.kind.code] ++ bytes2 r.round.toNat ++ [byte r.subject, byte r.detail.length] ++ r.detail

/-- The count and the m oldest records. -/
def eventsReport (e : EventList) (m : Nat) : List Byte := byte m :: (e.records.take m).flatMap EventRecord.bytes

end Sys2Proof.Machine
end

