-- ==== Sys2Proof/Machine/Link.lean ====
section
/-! DEFINITION. The Maintenance Link: rate matching, the collection and judging of requests, the eight requests and their
responses (R173 to R183). -/

namespace Sys2Proof.Machine

/-! ## Kinds and statuses (R177, section 10.4) -/

/-- The kind byte of a STATUS request. -/
def kindStatus : Byte := 0x11#8
/-- The kind byte of a ROUND request. -/
def kindRound : Byte := 0x12#8
/-- The kind byte of an EVENTS request. -/
def kindEvents : Byte := 0x13#8
/-- The kind byte of a MEMBERS request. -/
def kindMembers : Byte := 0x14#8
/-- The kind byte of an ACK_TRIP request. -/
def kindAckTrip : Byte := 0x21#8
/-- The kind byte of a RELEASE request. -/
def kindRelease : Byte := 0x22#8
/-- The kind byte of a LEAVE request. -/
def kindLeave : Byte := 0x23#8
/-- The kind byte of a RESTART request. -/
def kindRestart : Byte := 0x24#8

/-- A kind byte that names one of the eight requests. -/
def knownKind (k : Byte) : Bool :=
  [kindStatus, kindRound, kindEvents, kindMembers, kindAckTrip, kindRelease, kindLeave, kindRestart].contains k

/-- The four statuses of a response (R177). -/
inductive ReplyStatus where
  | done
  | refusedState
  | refusedCondition
  | malformed
deriving DecidableEq, Repr

/-- Status codes (R177). -/
def ReplyStatus.code : ReplyStatus → Nat
  | .done => 0
  | .refusedState => 1
  | .refusedCondition => 2
  | .malformed => 3

/-! ## Parts of the link -/

/-- The link's receiver set. -/
def State.setReceiver (s : State) (r : LinkReceiver) : State := { s with link := { s.link with receiver := r } }

/-- One of the link's counters changed. -/
def State.countLink (s : State) (f : LinkCounters → LinkCounters) : State :=
  { s with link := { s.link with counters := f s.link.counters } }

/-! ## Break and matching character (R174, R175, R179) -/

/-- A break is detected: the rate is lost, a request is abandoned uncounted, a response is abandoned and counted. -/
def Link.onBreak (l : Link) : Link :=
  { rate := none
    awaitingMatch := true
    receiver := .idle
    response := none
    counters := match l.response with
      | some _ => { l.counters with abandonedResponses := bump16 l.counters.abandonedResponses }
      | none => l.counters }

/-- The eight listed rates (R174). -/
def listedRates : List Rate := [.b9600, .b19200, .b38400, .b57600, .b115200, .b230400, .b460800, .b921600]

/-- How far the measured interval lies from nine nominal bit times of a rate, in ns times the rate's baud. -/
def Rate.distance (r : Rate) (interval : Nat) : Nat := ((interval : Int) * (r.baud : Int) - 9000000000).natAbs

/-- The nearer of two rates, by bit time. -/
def nearerRate (interval : Nat) (x y : Rate) : Rate :=
  if y.distance interval * x.baud < x.distance interval * y.baud then y else x

/-- The listed rate whose nominal bit time is nearest the measured one (R175). -/
def nearestRate (interval : Nat) : Rate := listedRates.foldl (nearerRate interval) .b9600

/-- The measured bit time lies within 3% of the rate's nominal bit time (R175). -/
def Rate.within3 (r : Rate) (interval : Nat) : Bool := decide (r.distance interval ≤ 270000000)

/-- A matching character has been measured and sampled (R175); it is looked for once after each break. -/
def Link.onMatch (l : Link) (interval : Nat) (sampled : Option Byte) : Link :=
  if l.awaitingMatch then
    if (nearestRate interval).within3 interval && sampled == some 0x55#8 then
      { l with rate := some (nearestRate interval), awaitingMatch := false, receiver := .idle }
    else { l with awaitingMatch := false }
  else l

/-! ## Collecting a request (R176) -/

/-- The characters of the request in progress, with those that have just arrived; none while SKIPPING. -/
def LinkReceiver.gathered (r : LinkReceiver) (chars : List Byte) : Option (List Byte) :=
  match r with
  | .idle => some chars
  | .receiving held => some (held ++ chars)
  | .skipping => none

/-- The characters are a request that has begun and not yet completed. -/
def openRequest (bs : List Byte) : Bool :=
  match bs with
  | [] => false
  | [_] => true
  | _ :: n :: _ => decide (n.toNat ≤ 250) && decide (bs.length < n.toNat + 4)

/-- The characters are a request received to its last CRC byte. -/
def wholeRequest (bs : List Byte) : Bool :=
  match bs with
  | _ :: n :: _ => decide (n.toNat ≤ 250) && decide (bs.length = n.toNat + 4)
  | _ => false

/-- The characters are a kind byte and a length byte above 250. -/
def overlongRequest (bs : List Byte) : Bool :=
  match bs with
  | [_, n] => decide (250 < n.toNat)
  | _ => false

/-- The characters gathered while MATCHED. -/
def State.linkGathered (s : State) (chars : List Byte) : Option (List Byte) :=
  if s.link.rate.isSome then s.link.receiver.gathered chars else none

/-- A malformed character on the line (R176): while SKIPPING it is ignored. -/
def State.mlFramingError (s : State) (chars : List Byte) : State :=
  match s.linkGathered chars with
  | some bs =>
    if bs.isEmpty || openRequest bs then
      (s.setReceiver .skipping).countLink (fun k => { k with framingErrors := bump16 k.framingErrors })
    else s
  | none => s

/-- A length byte above 250 (R176). -/
def State.lengthError (s : State) (chars : List Byte) : State :=
  match s.linkGathered chars with
  | some bs =>
    if overlongRequest bs then
      (s.setReceiver .skipping).countLink (fun k => { k with lengthErrors := bump16 k.lengthErrors })
    else if openRequest bs then s.setReceiver (.receiving bs)
    else s
  | none => s

/-- 20 character times of idle inside a request (R176). -/
def State.requestTruncated (s : State) (chars : List Byte) : State :=
  match s.linkGathered chars with
  | some bs =>
    if openRequest bs then
      (s.setReceiver .idle).countLink (fun k => { k with truncatedRequests := bump16 k.truncatedRequests })
    else s
  | none => s

/-- 20 character times of idle while SKIPPING (R176). -/
def State.skippingEnd (s : State) : State := if s.link.receiver = .skipping then s.setReceiver .idle else s

/-! ## Responses (R177, R178) -/

/-- The bytes of a response. -/
def responseBytes (kind : Byte) (status : ReplyStatus) (more : List Byte) : List Byte :=
  let body := [kind, byte (more.length + 1), byte status.code] ++ more
  body ++ crcBytes body

/-- A response is built now and is in progress from this instant (R178). -/
def State.respond (s : State) (kind : Byte) (status : ReplyStatus) (more : List Byte) (then_ : OnComplete) : State :=
  { s with
    link := { s.link with
      response := some { bytes := responseBytes kind status more, sent := 0, builtAt := s.now, onComplete := then_ } } }

/-- A response to a known request that carries its status and nothing to do. -/
def State.reply (s : State) (kind : Byte) (status : ReplyStatus) (more : List Byte) : State :=
  s.respond (kind + 0x80#8) status more .nothing

/-! ## The eight requests (R180 to R183) -/

/-- EVENTS (R181). -/
def State.takeEvents (s : State) (n : Nat) : State :=
  let m := min n s.events.records.length
  s.respond (kindEvents + 0x80#8) .done (eventsReport s.events m) (.removeRecords m)

/-- ACK_TRIP (R146). -/
def State.takeAckTrip (s : State) : State :=
  if s.trip.energised then s.reply kindAckTrip .refusedCondition []
  else ({ s with trip := { s.trip with latched := false } } : State).reply kindAckTrip .done []

/-- A named zone passes the test of a RELEASE request (R183). -/
def ZoneRecord.releasable (c : Configuration) (z : ZoneRecord) : Bool := z.latch && z.phases.all (PhaseRecord.quiet c)

/-- A zone set read from a byte. -/
def zoneSetOf (n : Nat) : ZoneSet := ⟨bitAt n 0, bitAt n 1, bitAt n 2⟩

/-- The first named zone that fails, in the order A, B, CZ (R183). -/
def firstFailing (c : Configuration) (z : ZoneEvaluator) (named : ZoneSet) : Option Zone :=
  [Zone.a, Zone.b, Zone.cz].find? (fun x => named.has x && !(z.get x).releasable c)

/-- RELEASE in PRESENT (R183). -/
def State.judgeRelease (s : State) (c : Configuration) (named : ZoneSet) : State :=
  match firstFailing c s.zones named with
  | some z => s.reply kindRelease .refusedCondition [byte (zoneCode z)]
  | none =>
    ({ s with life := { s.life with pendingRelease := s.life.pendingRelease.union named } } : State).reply kindRelease .done []

/-- RELEASE of a zone set (R183). -/
def State.takeRelease (s : State) (named : ZoneSet) : State :=
  match s.life.config with
  | some c => if s.life.state = .present then s.judgeRelease c named else s.reply kindRelease .refusedState []
  | none => s.reply kindRelease .refusedState []

/-- LEAVE (R165, R151). -/
def State.takeLeave (s : State) : State :=
  if s.life.state = .joining then s.acceptLeave.reply kindLeave .done []
  else if s.life.state = .present then
    if s.trip.admitsLeave then s.acceptLeave.reply kindLeave .done []
    else s.reply kindLeave .refusedCondition [1#8]
  else s.reply kindLeave .refusedState []

/-- RESTART (R152). -/
def State.takeRestart (s : State) : State :=
  if s.trip.energised then s.reply kindRestart .refusedCondition []
  else s.respond (kindRestart + 0x80#8) .done [] .restart

/-- The payload fits its request (section 10.4, R181, R183). -/
def payloadFits (kind : Byte) (payload : List Byte) : Bool :=
  match payload with
  | [] => kind != kindEvents && kind != kindRelease
  | [v] =>
    (kind == kindEvents && decide (1 ≤ v.toNat) && decide (v.toNat ≤ 16)) ||
    (kind == kindRelease && decide (1 ≤ v.toNat) && decide (v.toNat ≤ 7))
  | _ => false

/-- A request of a known kind with a fitting payload is taken (R177 step 5). -/
def State.take (s : State) (kind : Byte) (payload : List Byte) : State :=
  if kind = kindStatus then s.reply kind .done (statusReport s)
  else if kind = kindRound then s.reply kind .done (roundReport s)
  else if kind = kindMembers then s.reply kind .done (membersReport s)
  else if kind = kindEvents then s.takeEvents (payload.headD 0).toNat
  else if kind = kindAckTrip then s.takeAckTrip
  else if kind = kindRelease then s.takeRelease (zoneSetOf (payload.headD 0).toNat)
  else if kind = kindLeave then s.takeLeave
  else s.takeRestart

/-- The payload of a whole request. -/
def payloadOf (bs : List Byte) : List Byte := (bs.drop 2).take (bs.length - 4)

/-- A request whose reception has just completed is judged (R177). -/
def State.judge (s : State) (bs : List Byte) : State :=
  if s.link.response.isSome then s.countLink (fun k => { k with overruns := bump16 k.overruns })
  else if !crcGood bs then s.countLink (fun k => { k with crcErrors := bump16 k.crcErrors })
  else if !knownKind (bs.headD 0) then s.respond 0xFF#8 .malformed [] .nothing
  else if !payloadFits (bs.headD 0) (payloadOf bs) then s.reply (bs.headD 0) .malformed []
  else s.take (bs.headD 0) (payloadOf bs)

/-- Characters of a request arrive (R176): a completed request that is the one the command stands for is judged; one that
has not completed stays in progress. -/
def State.requestChars (s : State) (starts : Byte → Bool) (crc : Bool) (chars : List Byte) : State :=
  match s.linkGathered chars with
  | some bs =>
    if !starts (bs.headD 0) then s
    else if wholeRequest bs then if crcGood bs == crc then (s.setReceiver .idle).judge bs else s
    else if openRequest bs then s.setReceiver (.receiving bs)
    else s
  | none => s

/-- Characters of a request of this kind with a good CRC. -/
def State.request (s : State) (kind : Byte) (chars : List Byte) : State := s.requestChars (fun k => k == kind) true chars

/-! ## The end of a response (R178, R181, R152) -/

/-- What the completion of a response does. A RESTART accepted in HOLD resets the station there too, as R152, R157 and R170 have
it, although R32 lets only SUPPLY-RESTORE end HOLD: the model's choice between the two, DESIGN CHOICE, log entry 33. -/
def State.afterResponse (s : State) (x : OnComplete) (straps : Straps) : State :=
  match x with
  | .nothing => s
  | .removeRecords m => { s with events := { s.events with records := s.events.records.drop m } }
  | .restart => s.resetBy .commandedRestart straps

/-- The last stop symbol of a response ends. -/
def State.responseComplete (s : State) (straps : Straps) : State :=
  match s.link.response with
  | some r => ({ s with link := { s.link with response := none } } : State).afterResponse r.onComplete straps
  | none => s

end Sys2Proof.Machine
end

