-- ==== Sys2Proof/Machine/Maintenance.lean ====
section
/-! DEFINITION. The commands of the maintenance line (R174 to R183), and the end of LEAVING (R167). -/

namespace Sys2Proof.Machine

/-! ## The line -/

/-- BREAK (R174). -/
def execMlBreak (s : State) : Host.Outcome State Fault Refusal :=
  live s fun s => { s with link := s.link.onBreak }

/-- RATE_MATCH (R175). -/
def execRateMatch (interval : Nat) (sampled : Option Byte) (s : State) : Host.Outcome State Fault Refusal :=
  live s fun s => { s with link := s.link.onMatch interval sampled }

/-- ML_FRAMING_ERROR (R176). -/
def execMlFramingError (chars : List Byte) (s : State) : Host.Outcome State Fault Refusal :=
  live s fun s => s.mlFramingError chars

/-- LENGTH_ERROR (R176). -/
def execLengthError (chars : List Byte) (s : State) : Host.Outcome State Fault Refusal :=
  live s fun s => s.lengthError chars

/-- REQUEST_TRUNCATED (R176). -/
def execRequestTruncated (chars : List Byte) (s : State) : Host.Outcome State Fault Refusal :=
  live s fun s => s.requestTruncated chars

/-- SKIPPING_END (R176). -/
def execSkippingEnd (s : State) : Host.Outcome State Fault Refusal :=
  live s fun s => s.skippingEnd

/-! ## Requests -/

/-- REQUEST_CRC_ERROR (R177). -/
def execRequestCrcError (chars : List Byte) (s : State) : Host.Outcome State Fault Refusal :=
  live s fun s => s.requestChars (fun _ => true) false chars

/-- UNKNOWN_KIND (R177). -/
def execUnknownKind (chars : List Byte) (s : State) : Host.Outcome State Fault Refusal :=
  live s fun s => s.requestChars (fun k => !knownKind k) true chars

/-- STATUS (R180). -/
def execStatus (chars : List Byte) (s : State) : Host.Outcome State Fault Refusal :=
  live s fun s => s.request kindStatus chars

/-- ROUND (R180). -/
def execRound (chars : List Byte) (s : State) : Host.Outcome State Fault Refusal :=
  live s fun s => s.request kindRound chars

/-- EVENTS (R181). -/
def execEvents (chars : List Byte) (s : State) : Host.Outcome State Fault Refusal :=
  live s fun s => s.request kindEvents chars

/-- MEMBERS (R180). -/
def execMembers (chars : List Byte) (s : State) : Host.Outcome State Fault Refusal :=
  live s fun s => s.request kindMembers chars

/-- ACK_TRIP (R146). -/
def execAckTrip (chars : List Byte) (s : State) : Host.Outcome State Fault Refusal :=
  live s fun s => s.request kindAckTrip chars

/-- RELEASE (R183). -/
def execRelease (chars : List Byte) (s : State) : Host.Outcome State Fault Refusal :=
  live s fun s => s.request kindRelease chars

/-- LEAVE (R165). -/
def execLeave (chars : List Byte) (s : State) : Host.Outcome State Fault Refusal :=
  live s fun s => s.request kindLeave chars

/-- RESTART (R152). -/
def execRestart (chars : List Byte) (s : State) : Host.Outcome State Fault Refusal :=
  live s fun s => s.request kindRestart chars

/-- RESPONSE_COMPLETE (R178). -/
def execResponseComplete (straps : Straps) (s : State) : Host.Outcome State Fault Refusal :=
  live s fun s => s.responseComplete straps

/-! ## The end of LEAVING -/

/-- The event that brings the second LEAVE report (R167). -/
def State.finishLeave (s : State) (f : LeaveFinish) : State :=
  match f with
  | .transmission lane => s.transmissionComplete lane
  | .request chars => s.request kindLeave chars

/-- LEAVING_END (R167). -/
def execLeavingEnd (finish : LeaveFinish) (s : State) : Host.Outcome State Fault Refusal :=
  live s fun s =>
    if s.life.state != .out && (s.finishLeave finish).life.state == .out then s.finishLeave finish else s

end Sys2Proof.Machine
end

