-- ==== Sys2Proof/Machine/Closing.lean ====
section
/-! DEFINITION. Marks and close points, whole: what every block does at them, and the commands for what one close or one mark
brings about. -/

namespace Sys2Proof.Machine

/-! ## Marks (R2, R3, R6, R7, R161) -/

/-- The time up to a phase passes. -/
def State.passTo (s : State) (phase : Nat) : State := s.elapse (phase - s.timer.phase)

/-- A bare mark (R2, R30). -/
def State.bareMark (s : State) (l : BayLines) : State :=
  if s.timer.mode = .bare then
    let s1 := s.passTo 1000
    ({ s1 with timer := s1.timer.bareMark s1.now } : State).acquireMark l .bare
  else s

/-- What every local mark that starts no numbering does: the mark, the reads and scan, the stage count, the health check
without its records (R2, R19, R49, R161). -/
def State.localMarkBlocks (s : State) (c : Configuration) (l : BayLines) : State :=
  let s1 : State :=
    { s with
      timer := s.timer.localMark s.now
      life := { s.life with stageCount := bump 64 s.life.stageCount } }
  (s1.acquireMark l .localMark).checkHealth c

/-- The 64th local mark of STABILISE (R161, R169). -/
def State.settle (s : State) (c : Configuration) (l : BayLines) : State :=
  let s1 := s.localMarkBlocks c l
  let s2 : State :=
    { s1 with
      timer := { s1.timer with localCount := 0 }
      life := { s1.life with stageCount := 0 }
      supply := { s1.supply with ready := true } }
  s2.enter .listen [s.healthDrafts c, [stationDraft s .listen .settled []]]

/-- The local mark that ends LISTEN without a capture: round 0 begins, row 0 opens, and the station enters JOINING (R7,
R19, R161). -/
def State.startNumbering (s : State) (c : Configuration) (l : BayLines) : State :=
  let s1 : State :=
    { s with
      timer := s.timer.startNumbering c.period s.now
      table := { s.table with openRow := some (Row.fresh 0), newest := none, older := none, settling := false }
      life := { s.life with stageCount := bump 64 s.life.stageCount } }
  let s2 := (s1.acquireMark l (.round 0)).checkHealth c
  s2.enter .joining [s.healthDrafts c, [stationDraft s .joining .alone []]]

/-- This local mark is the 64th of STABILISE (R161). -/
def State.settlesNext (s : State) : Bool := s.life.state == .stabilise && decide (64 ≤ s.life.stageCount + 1)

/-- This local mark brings the stage count of LISTEN to 2·LOST_ROUNDS (R161). -/
def State.numbersNext (s : State) (c : Configuration) : Bool :=
  s.life.state == .listen && decide (2 * c.lostRounds ≤ s.life.stageCount + 1)

/-- A local mark (R2), with all that happens at it. -/
def State.localMark (s : State) (l : BayLines) : State :=
  match s.timer.mode, s.life.config with
  | .localMarks, some c =>
    let s1 := s.passTo c.period
    if s.settlesNext then s1.settle c l
    else if s.numbersNext c then s1.startNumbering c l
    else (s1.localMarkBlocks c l).offerAll (s1.healthDrafts c)
  | _, _ => s

/-- A round mark (R3), with the entry to JOINING at the mark that follows a capture (R10, R161). -/
def State.roundMark (s : State) (l : BayLines) : State :=
  match s.timer.mode, s.life.config with
  | .numbered, some c =>
    if s.closeAhead then s
    else
      let s1 := s.passTo s.timer.roundLength
      let s2 : State := { s1 with timer := s1.timer.roundMark c.period s1.now }
      let s3 := s2.acquireMark l (.round s2.timer.round)
      if s.life.state = .listen then s3.transition .joining .captured [] else s3
  | _, _ => s

/-- The mark that the timer's mode produces next (R2). -/
def State.nextMark (s : State) (l : BayLines) : State :=
  match s.timer.mode with
  | .stopped => s
  | .bare => s.bareMark l
  | .localMarks => s.localMark l
  | .numbered => s.roundMark l

/-! ## Close points (R4, R68, R69) -/

/-- One block takes the close of the newest closed row. -/
def closeBlock (c : Configuration) (s : State) (b : CloseBlock) : State :=
  match b with
  | .health => s.healthClose c
  | .membership => s.membershipClose c
  | .replica => s.replicaClose c
  | .zones => s.zonesClose c
  | .trip => s.tripClose c
  | .timer => s.timerClose c
  | .controller => s.controllerClose c

/-- The close point of the round in progress is the next event of the timer (R4). -/
def State.closeDue (s : State) : Bool :=
  s.closeAhead && match s.closePhase with
    | some p => decide (s.timer.phase ≤ p)
    | none => false

/-- The instant of the close point, with the Round Table's own part done: row k closed, row k + 1 open (R4, R68). -/
def State.rowClosed (s : State) (c : Configuration) : State :=
  let s1 := s.passTo c.close
  { s1 with table := s1.table.close }

/-- The state after the blocks of a list have taken the close. -/
def State.closeThrough (s : State) (c : Configuration) (blocks : List CloseBlock) : State :=
  blocks.foldl (closeBlock c) (s.rowClosed c)

/-- A close point: row k closes and every block acts on it, in this order (R4). -/
def State.closePoint (s : State) (o : CloseOrder) : State :=
  match s.life.config with
  | some c => if s.closeDue && o.valid then s.closeThrough c o else s
  | none => s

/-- The state in which a block takes the close. -/
def State.closeBefore (s : State) (c : Configuration) (o : CloseOrder) (b : CloseBlock) : State :=
  s.closeThrough c (o.takeWhile (· != b))

/-! ## What one close brings about

Each of these says that the close point now due brings the row's event about; its command is that close point. -/

/-- A close point is due, it is taken in a valid order, and a test of it holds. -/
def State.closeBrings (s : State) (o : CloseOrder) (test : Configuration → Bool) : Bool :=
  match s.life.config with
  | some c => s.closeDue && o.valid && test c
  | none => false

/-- The state of a station number's entry. -/
def State.entryState (s : State) (n : Nat) : Option EntryState := (s.entry n).map Entry.state

/-- A peer entry goes from one state to another over a block's action. -/
def entryGoes (c : Configuration) (n : Nat) (old new : EntryState) (s t : State) : Bool :=
  n != c.station && s.entryState n == some old && t.entryState n == some new

/-- The close makes a JOINING peer entry PRESENT (R79). -/
def State.bringsPresent (s : State) (n : Nat) (o : CloseOrder) : Bool :=
  s.closeBrings o fun c =>
    let t := s.closeBefore c o .membership
    entryGoes c n .joining .present t (t.membershipClose c)

/-- The close makes a PRESENT peer entry LOST (R80). -/
def State.bringsLost (s : State) (n : Nat) (o : CloseOrder) : Bool :=
  s.closeBrings o fun c =>
    let t := s.closeBefore c o .membership
    entryGoes c n .present .lost t (t.membershipClose c)

/-- The close releases a coupler (R101). -/
def State.bringsRelease (s : State) (n : Nat) (o : CloseOrder) : Bool :=
  s.closeBrings o fun c =>
    let t := s.closeBefore c o .replica
    !t.replica.held.releasedIn n && (t.replicaClose c).replica.held.releasedIn n

/-- The close makes an isolator STUCK (R110). -/
def State.bringsStuck (s : State) (n : Nat) (bus : Bus) (o : CloseOrder) : Bool :=
  s.closeBrings o fun c =>
    let t := s.closeBefore c o .replica
    !t.replica.held.stuckIn n bus && (t.replicaClose c).replica.held.stuckIn n bus

/-- The outcome of the zones at the close now due. -/
def State.zonesAtClose (s : State) (c : Configuration) (o : CloseOrder) : Option ZonesOutcome :=
  let t := s.closeBefore c o .zones
  t.table.newest.map (zonesOutcome c t)

/-- The close changes a zone's state for this reason (R126). -/
def State.bringsReason (s : State) (z : Zone) (r : ZoneReason) (o : CloseOrder) : Bool :=
  s.closeBrings o fun c =>
    match s.zonesAtClose c o with
    | some x => (x.get z).reason == some r && (s.zones.get z).state != (x.get z).zone.state
    | none => false

/-- The close sets a zone's supervision latch (R130). -/
def State.bringsLatch (s : State) (z : Zone) (o : CloseOrder) : Bool :=
  s.closeBrings o fun c =>
    match s.zonesAtClose c o with
    | some x => (x.get z).latched.isSome
    | none => false

/-- The close makes the breaker-failure timer expire (R148). -/
def State.bringsExpiry (s : State) (o : CloseOrder) : Bool :=
  s.closeBrings o fun c =>
    let t := s.closeBefore c o .trip
    t.trip.bfTimer == .running && (t.tripClose c).trip.bfTimer == .expired

/-- The close moves the station to a state (R163, R164). -/
def State.bringsState (s : State) (new : StationState) (o : CloseOrder) : Bool :=
  s.closeBrings o fun c =>
    let t := s.closeBefore c o .controller
    t.life.state != new && (t.controllerClose c).life.state == new

/-! ## What one mark or check point brings about -/

/-- The state after a check point (R49). -/
def State.checkPoint (s : State) (p : CheckPoint) : State :=
  match p with
  | .close o => s.closePoint o
  | .localMark l => s.localMark l

/-- The debounced value of an input, as a code. -/
def Acquisition.inputCode (a : Acquisition) : BayInput → Nat
  | .isolatorA => a.isoA.value.code
  | .isolatorB => a.isoB.value.code
  | .breaker => a.breaker.value.code
  | .initiation => bit 1 a.initiation.value

/-- The mark adopts a new debounced value for an input (R27). -/
def State.bringsAdoption (s : State) (i : BayInput) (l : BayLines) : Bool :=
  s.life.config.isSome && (s.nextMark l).acquisition.inputCode i != s.acquisition.inputCode i

end Sys2Proof.Machine
end

