-- ==== Sys2Proof/Machine/Marks.lean ====
section
/-! DEFINITION. The commands of the marks and close points, and of what one of them brings about. -/

namespace Sys2Proof.Machine

/-! ## Marks -/

/-- BARE_MARK (R2). -/
def execBareMark (lines : BayLines) (s : State) : Host.Outcome State Fault Refusal :=
  live s fun s => s.bareMark lines

/-- LOCAL_MARK (R2). -/
def execLocalMark (lines : BayLines) (s : State) : Host.Outcome State Fault Refusal :=
  live s fun s => s.localMark lines

/-- STABILISE_END (R161): the 64th local mark of STABILISE. -/
def execStabiliseEnd (lines : BayLines) (s : State) : Host.Outcome State Fault Refusal :=
  live s fun s => if s.settlesNext then s.localMark lines else s

/-- START_OF_OWN_NUMBERING (R7): the local mark that ends LISTEN without a capture. -/
def execStartOfOwnNumbering (lines : BayLines) (s : State) : Host.Outcome State Fault Refusal :=
  live s fun s =>
    match s.life.config with
    | some c => if s.numbersNext c then s.localMark lines else s
    | none => s

/-- ROUND_MARK (R3). -/
def execRoundMark (lines : BayLines) (s : State) : Host.Outcome State Fault Refusal :=
  live s fun s => s.roundMark lines

/-- DEBOUNCE_ADOPT (R27): the mark at which an input's candidate count reaches DEBOUNCE. -/
def execDebounceAdopt (input : BayInput) (lines : BayLines) (s : State) : Host.Outcome State Fault Refusal :=
  live s fun s => if s.bringsAdoption input lines then s.nextMark lines else s

/-! ## Close points -/

/-- CLOSE_POINT (R4). -/
def execClosePoint (order : CloseOrder) (s : State) : Host.Outcome State Fault Refusal :=
  live s fun s => s.closePoint order

/-- ENTRY_PRESENT (R79). -/
def execEntryPresent (station : Nat) (order : CloseOrder) (s : State) : Host.Outcome State Fault Refusal :=
  live s fun s => if s.bringsPresent station order then s.closePoint order else s

/-- ENTRY_LOST (R80). -/
def execEntryLost (station : Nat) (order : CloseOrder) (s : State) : Host.Outcome State Fault Refusal :=
  live s fun s => if s.bringsLost station order then s.closePoint order else s

/-- ENDZONE_RELEASE (R101). -/
def execEndzoneRelease (station : Nat) (order : CloseOrder) (s : State) : Host.Outcome State Fault Refusal :=
  live s fun s => if s.bringsRelease station order then s.closePoint order else s

/-- ISOLATOR_STUCK (R110). -/
def execIsolatorStuck (station : Nat) (bus : Bus) (order : CloseOrder) (s : State) : Host.Outcome State Fault Refusal :=
  live s fun s => if s.bringsStuck station bus order then s.closePoint order else s

/-- ARMED (R122). -/
def execArmed (zone : Zone) (order : CloseOrder) (s : State) : Host.Outcome State Fault Refusal :=
  live s fun s => if s.bringsReason zone .armed order then s.closePoint order else s

/-- CLEAR (R124). -/
def execClear (zone : Zone) (order : CloseOrder) (s : State) : Host.Outcome State Fault Refusal :=
  live s fun s => if s.bringsReason zone .clear order then s.closePoint order else s

/-- GAPS (R125). -/
def execGaps (zone : Zone) (order : CloseOrder) (s : State) : Host.Outcome State Fault Refusal :=
  live s fun s => if s.bringsReason zone .gaps order then s.closePoint order else s

/-- SUPERVISION_LATCH (R130). -/
def execSupervisionLatch (zone : Zone) (order : CloseOrder) (s : State) : Host.Outcome State Fault Refusal :=
  live s fun s => if s.bringsLatch zone order then s.closePoint order else s

/-- BF_EXPIRED (R148). -/
def execBfExpired (order : CloseOrder) (s : State) : Host.Outcome State Fault Refusal :=
  live s fun s => if s.bringsExpiry order then s.closePoint order else s

/-- PROMOTION (R163). -/
def execPromotion (order : CloseOrder) (s : State) : Host.Outcome State Fault Refusal :=
  live s fun s => if s.bringsState .present order then s.closePoint order else s

/-- EXCLUSION (R168). -/
def execExclusion (order : CloseOrder) (s : State) : Host.Outcome State Fault Refusal :=
  live s fun s => if s.bringsState .excluded order then s.closePoint order else s

/-! ## Check points -/

/-- LINK_DOWN (R49): the check point at which an UP in-lane goes DOWN. -/
def execLinkDown (lane : Lane) (point : CheckPoint) (s : State) : Host.Outcome State Fault Refusal :=
  live s fun s => if (s.lane lane).up && !((s.checkPoint point).lane lane).up then s.checkPoint point else s

/-- LINK_UP (R49): the check point at which a DOWN in-lane comes UP. -/
def execLinkUp (lane : Lane) (point : CheckPoint) (s : State) : Host.Outcome State Fault Refusal :=
  live s fun s => if !(s.lane lane).up && ((s.checkPoint point).lane lane).up then s.checkPoint point else s

end Sys2Proof.Machine
end

