-- ==== Sys2Proof/Machine/Resets.lean ====
section
/-! DEFINITION. The commands of the supply and of the configuration read (R157, R159, R170, R171). -/

namespace Sys2Proof.Machine

/-- The level at or above which the supply has to stay for a POWER-ON reset, in mV (R157). -/
def powerOnLevel : Nat := 2700

/-- POWER_ON (R157). -/
def execPowerOn (straps : Straps) (millivolts : Nat) (s : State) : Host.Outcome State Fault Refusal :=
  .next (if powerOnLevel ≤ millivolts then s.resetBy .powerOn straps else s)

/-- SUPPLY_RESTORE (R171). -/
def execSupplyRestore (straps : Straps) (millivolts : Nat) (s : State) : Host.Outcome State Fault Refusal :=
  live s fun s => s.supplyRestore straps millivolts

/-- CONFIG_READ_END (R159). -/
def execConfigReadEnd (image : List Byte) (lines : BayLines) (s : State) : Host.Outcome State Fault Refusal :=
  live s fun s => s.configReadEnd image lines

/-- SUPPLY_LOW (R170). -/
def execSupplyLow (millivolts : Nat) (s : State) : Host.Outcome State Fault Refusal :=
  live s fun s => s.supplyLow millivolts

/-- POWER_LOSS (R171): in LOW the part loses power, and no reset is issued. -/
def execPowerLoss (s : State) : Host.Outcome State Fault Refusal :=
  live s fun s => if s.supply.low then { s with powered := false } else s

end Sys2Proof.Machine
end

