-- ==== Sys2Proof/Machine/Scans.lean ====
section
/-! DEFINITION. The completion of a scan with the handing on of its result, and the three commands for it (R20, R25, R29). -/

namespace Sys2Proof.Machine

/-- A scan result handed to the Trip Unit (R137). -/
def State.handTrip (s : State) (c : Configuration) (currents : Tri Int) (quality : Quality) : State :=
  { s with trip := s.trip.appendPeak c.w { currents := currents, quality := quality } }

/-- A scan result handed on by the station state and the scan's tag (R29). -/
def State.handOn (s : State) (c : Configuration) (tag : ScanTag) (currents : Tri Int) (quality : Quality) : State :=
  match tag with
  | .round k =>
    if s.life.state.contributing then
      (s.ownBuild c k currents quality s.acquisition.positions).handTrip c currents quality
    else if s.life.state = .leaving then s.handTrip c currents quality
    else s
  | .void => if s.life.state.working then s.handTrip c currents quality else s
  | .localMark | .bare => s

/-- The unit's own part of a scan's completion, with the record of a change of quality (R20, R24, R25). -/
def State.scanUnit (s : State) (n : ScanCounts) : State :=
  let a := s.acquisition.complete s.life.config n
  ({ s with acquisition := a } : State).offerAll (qualityDraft s.ownNumber s.acquisition.quality a.quality n.ref.toInt)

/-- A scan completes (R20). -/
def State.scanComplete (s : State) (n : ScanCounts) : State :=
  match s.acquisition.scan with
  | none => s
  | some tag =>
    let s1 := s.scanUnit n
    match s.life.config with
    | some c => s1.handOn c tag (scanCurrents (some c) n) s1.acquisition.quality
    | none => s1

/-- The scan's completion takes the quality from one value to another (R25). -/
def State.bringsQuality (s : State) (n : ScanCounts) (old new : Quality) : Bool :=
  s.acquisition.quality == old && (s.scanComplete n).acquisition.quality == new

/-! ## Commands -/

/-- SCAN_COMPLETE (R20). -/
def execScanComplete (counts : ScanCounts) (s : State) : Host.Outcome State Fault Refusal :=
  live s fun s => s.scanComplete counts

/-- ACQ_FAULT (R25): the scan completion that makes the quality INVALID. -/
def execAcqFault (counts : ScanCounts) (s : State) : Host.Outcome State Fault Refusal :=
  live s fun s => if s.bringsQuality counts .valid .invalid then s.scanComplete counts else s

/-- ACQ_RESTORED (R25): the scan completion that makes the quality VALID. -/
def execAcqRestored (counts : ScanCounts) (s : State) : Host.Outcome State Fault Refusal :=
  live s fun s => if s.bringsQuality counts .invalid .valid then s.scanComplete counts else s

end Sys2Proof.Machine
end

