-- ==== Sys2Proof/Machine/Traffic.lean ====
section
/-! DEFINITION. The commands of the ring: reception on an in-lane and transmission on an out-lane (R37 to R48). -/

namespace Sys2Proof.Machine

/-! ## Reception -/

/-- CONTRIB_RECEIVED (R44). -/
def execContribReceived (lane : Lane) (chars : List Byte) (s : State) : Host.Outcome State Fault Refusal :=
  live s fun s => s.frameChars lane leadContrib 24 chars

/-- LEAVE_RECEIVED (R84). -/
def execLeaveReceived (lane : Lane) (chars : List Byte) (s : State) : Host.Outcome State Fault Refusal :=
  live s fun s => s.frameChars lane leadLeave 12 chars

/-- UNKNOWN_LEAD (R38). -/
def execUnknownLead (lane : Lane) (char : Byte) (s : State) : Host.Outcome State Fault Refusal :=
  live s fun s => s.unknownLead lane char

/-- MALFORMED_CHARACTER (R38). -/
def execMalformedCharacter (lane : Lane) (s : State) : Host.Outcome State Fault Refusal :=
  live s fun s => s.malformedInHunt lane

/-- RETURN_TO_HUNT (R37). -/
def execReturnToHunt (lane : Lane) (s : State) : Host.Outcome State Fault Refusal :=
  live s fun s => s.backToHunt lane

/-- FRAMING_ERROR (R39). -/
def execFramingError (lane : Lane) (chars : List Byte) (allSpace : Bool) (s : State) : Host.Outcome State Fault Refusal :=
  live s fun s => s.framingError lane chars allSpace

/-- TRUNCATION (R39). -/
def execTruncation (lane : Lane) (chars : List Byte) (s : State) : Host.Outcome State Fault Refusal :=
  live s fun s => s.truncation lane chars

/-- LINE_CLEAR_SEEN (R40). -/
def execLineClearSeen (lane : Lane) (chars : List Byte) (s : State) : Host.Outcome State Fault Refusal :=
  live s fun s => s.lineClearSeen lane chars

/-! ## Transmission -/

/-- TRANSMISSION_COMPLETE (R46). -/
def execTransmissionComplete (lane : Lane) (s : State) : Host.Outcome State Fault Refusal :=
  live s fun s => s.transmissionComplete lane

/-- LINE_CLEAR_END (R46). -/
def execLineClearEnd (lane : Lane) (s : State) : Host.Outcome State Fault Refusal :=
  live s fun s => s.lineClearEnd lane

/-- GAP_END (R46). -/
def execGapEnd (lane : Lane) (s : State) : Host.Outcome State Fault Refusal :=
  live s fun s => s.gapEnd lane

end Sys2Proof.Machine
end

