-- ==== Sys2Proof/Machine/Dispatch.lean ====
section
/-! DEFINITION. Each command's effect on everything but the queue: one arm for each row of spec/opcode_table.json. -/

namespace Sys2Proof.Machine

/-- The effect of a command. -/
def exec (i : Instr) (s : State) : Host.Outcome State Fault Refusal :=
  match i with
  | .powerOn straps millivolts => Sys2Proof.Machine.execPowerOn straps millivolts s
  | .supplyRestore straps millivolts => Sys2Proof.Machine.execSupplyRestore straps millivolts s
  | .configReadEnd image lines => Sys2Proof.Machine.execConfigReadEnd image lines s
  | .bareMark lines => Sys2Proof.Machine.execBareMark lines s
  | .localMark lines => Sys2Proof.Machine.execLocalMark lines s
  | .stabiliseEnd lines => Sys2Proof.Machine.execStabiliseEnd lines s
  | .startOfOwnNumbering lines => Sys2Proof.Machine.execStartOfOwnNumbering lines s
  | .roundMark lines => Sys2Proof.Machine.execRoundMark lines s
  | .closePoint order => Sys2Proof.Machine.execClosePoint order s
  | .entryPresent station order => Sys2Proof.Machine.execEntryPresent station order s
  | .entryLost station order => Sys2Proof.Machine.execEntryLost station order s
  | .endzoneRelease station order => Sys2Proof.Machine.execEndzoneRelease station order s
  | .isolatorStuck station bus order => Sys2Proof.Machine.execIsolatorStuck station bus order s
  | .armed zone order => Sys2Proof.Machine.execArmed zone order s
  | .clear zone order => Sys2Proof.Machine.execClear zone order s
  | .gaps zone order => Sys2Proof.Machine.execGaps zone order s
  | .supervisionLatch zone order => Sys2Proof.Machine.execSupervisionLatch zone order s
  | .bfExpired order => Sys2Proof.Machine.execBfExpired order s
  | .promotion order => Sys2Proof.Machine.execPromotion order s
  | .exclusion order => Sys2Proof.Machine.execExclusion order s
  | .scanComplete counts => Sys2Proof.Machine.execScanComplete counts s
  | .acqFault counts => Sys2Proof.Machine.execAcqFault counts s
  | .acqRestored counts => Sys2Proof.Machine.execAcqRestored counts s
  | .debounceAdopt input lines => Sys2Proof.Machine.execDebounceAdopt input lines s
  | .contribReceived lane chars => Sys2Proof.Machine.execContribReceived lane chars s
  | .leaveReceived lane chars => Sys2Proof.Machine.execLeaveReceived lane chars s
  | .unknownLead lane char => Sys2Proof.Machine.execUnknownLead lane char s
  | .framingError lane chars allSpace => Sys2Proof.Machine.execFramingError lane chars allSpace s
  | .truncation lane chars => Sys2Proof.Machine.execTruncation lane chars s
  | .lineClearSeen lane chars => Sys2Proof.Machine.execLineClearSeen lane chars s
  | .transmissionComplete lane => Sys2Proof.Machine.execTransmissionComplete lane s
  | .lineClearEnd lane => Sys2Proof.Machine.execLineClearEnd lane s
  | .gapEnd lane => Sys2Proof.Machine.execGapEnd lane s
  | .linkDown lane point => Sys2Proof.Machine.execLinkDown lane point s
  | .linkUp lane point => Sys2Proof.Machine.execLinkUp lane point s
  | .leavingEnd finish => Sys2Proof.Machine.execLeavingEnd finish s
  | .supplyLow millivolts => Sys2Proof.Machine.execSupplyLow millivolts s
  | .mlBreak => Sys2Proof.Machine.execMlBreak s
  | .rateMatch interval sampled => Sys2Proof.Machine.execRateMatch interval sampled s
  | .mlFramingError chars => Sys2Proof.Machine.execMlFramingError chars s
  | .lengthError chars => Sys2Proof.Machine.execLengthError chars s
  | .requestTruncated chars => Sys2Proof.Machine.execRequestTruncated chars s
  | .unknownKind chars => Sys2Proof.Machine.execUnknownKind chars s
  | .status chars => Sys2Proof.Machine.execStatus chars s
  | .round chars => Sys2Proof.Machine.execRound chars s
  | .events chars => Sys2Proof.Machine.execEvents chars s
  | .members chars => Sys2Proof.Machine.execMembers chars s
  | .ackTrip chars => Sys2Proof.Machine.execAckTrip chars s
  | .release chars => Sys2Proof.Machine.execRelease chars s
  | .leave chars => Sys2Proof.Machine.execLeave chars s
  | .restart chars => Sys2Proof.Machine.execRestart chars s
  | .responseComplete straps => Sys2Proof.Machine.execResponseComplete straps s
  | .requestCrcError chars => Sys2Proof.Machine.execRequestCrcError chars s
  | .skippingEnd => Sys2Proof.Machine.execSkippingEnd s
  | .malformedCharacter lane => Sys2Proof.Machine.execMalformedCharacter lane s
  | .returnToHunt lane => Sys2Proof.Machine.execReturnToHunt lane s
  | .powerLoss => Sys2Proof.Machine.execPowerLoss s

end Sys2Proof.Machine
end

