-- ==== Sys2Proof/Machine/Idle.lean ====
section
/-! DEFINITION. What the station does while no command waits: one microsecond passes (log entry 1). -/

namespace Sys2Proof.Machine

/-- A microsecond can pass before the next mark and before a close point that is due. -/
def State.clockFree (s : State) : Bool :=
  (match s.markPhase with
    | some m => decide (s.timer.phase + 1 < m)
    | none => true) &&
  !(s.closeAhead && s.closePhase == some s.timer.phase)

/-- One microsecond passes in a station that has power, unless a mark or a close point is due. -/
def State.idle (s : State) : State := if s.powered && s.clockFree then s.elapse 1 else s

end Sys2Proof.Machine
end

