-- ==== Sys2Proof/Safety.lean ====
section
/-! DEFINITION. What holds of the station at all times: the invariants that the claims about every step are stated with. -/

namespace Sys2Proof.Machine

/-- No out-lane queue holds more than 8 frames (R45). -/
abbrev State.queuesBounded (s : State) : Prop := s.ring.one.queue.length ≤ 8 ∧ s.ring.two.queue.length ≤ 8

/-- A queued frame is a whole CONTRIB or a whole LEAVE, with its own lead byte (R38, section 11.2). -/
abbrev QueuedFrame.whole (f : QueuedFrame) : Prop := frameLength (f.bytes.getD 0 0) = some f.bytes.length

/-- Every queued frame is whole. -/
abbrev State.queuesWhole (s : State) : Prop :=
  (∀ f ∈ s.ring.one.queue, f.whole) ∧ (∀ f ∈ s.ring.two.queue, f.whole)

/-- The Event List never holds more than 64 records, and its lost count stays within its range (R184). -/
abbrev State.eventsBounded (s : State) : Prop := s.events.records.length ≤ 64 ∧ s.events.lost ≤ 65535

/-- The trip output is energised in PRESENT alone (R143, R145). -/
abbrev State.tripsWhilePresent (s : State) : Prop := s.trip.energised = true → s.life.state = .present

/-- The BF flag is set exactly while the breaker-failure timer is EXPIRED, and the timer leaves IDLE in JOINING and PRESENT
alone (R147 to R150). -/
abbrev State.bfFollowsTimer (s : State) : Prop :=
  (s.trip.bfFlag = true ↔ s.trip.bfTimer = .expired) ∧ (s.trip.bfTimer ≠ .idle → s.life.state.contributing = true)

/-- The timer modes of a station state (R1); in LISTEN they are LOCAL before a capture and NUMBERED after it. -/
def StationState.admits : StationState → TimerMode → Bool
  | .start, .stopped | .hold, .stopped => true
  | .configFault, .bare => true
  | .stabilise, .localMarks | .listen, .localMarks => true
  | .listen, .numbered | .joining, .numbered | .present, .numbered | .leaving, .numbered | .out, .numbered
  | .excluded, .numbered => true
  | _, _ => false

/-- A state with a configuration in force, a state without one, or HOLD, which can follow either (R157, R159, R160, R170). -/
def StationState.admitsConfig : StationState → Bool → Bool
  | .start, loaded | .configFault, loaded => !loaded
  | .hold, _ => true
  | _, loaded => loaded

/-- The timer's mode and the configuration follow the station state (R1, R156). -/
abbrev State.modeFollows (s : State) : Prop :=
  s.life.state.admits s.timer.mode = true ∧ s.life.state.admitsConfig s.life.config.isSome = true

/-- CZ never trips, the verdict is the set of busbar zones in TRIPPED, and in MERGED mode B's record equals A's (R123, R132,
R128). -/
abbrev State.zonesAgree (s : State) : Prop :=
  s.zones.cz.state ≠ .tripped ∧ s.zones.verdict = verdictOf s.zones.a s.zones.b ∧
  (s.zones.merged = true → s.zones.b = s.zones.a)

/-- The open row of a numbered timer: this round's row before its close, the next round's after it or after a capture (R4). -/
def RoundTimer.opens (t : RoundTimer) (row : Option Row) : Bool :=
  match row with
  | some r => (r.round == t.round && !t.captured) || r.round == t.round + 1
  | none => false

/-- In NUMBERED exactly one row is open: that of the round in progress or of the next (R4). -/
abbrev State.oneRowOpen (s : State) : Prop := s.timer.mode = .numbered → s.timer.opens s.table.openRow = true

/-- The own entry follows the station state (R89). -/
abbrev State.ownEntryFollows (s : State) : Prop :=
  ∀ e ∈ s.membership.entries, e.station = s.ownNumber → e.state = ownEntryState s.life.state

/-- A zone's windows hold at most so many conditions (R117). -/
abbrev ZoneRecord.windowsWithin (n : Nat) (z : ZoneRecord) : Prop :=
  z.phases.a.window.length ≤ n ∧ z.phases.b.window.length ≤ n ∧ z.phases.c.window.length ≤ n

/-- W of the configuration in force, 0 while there is none. -/
def State.depth (s : State) : Nat := (s.life.config.map Configuration.w).getD 0

/-- The windows and the peak history hold at most W items (R117, R137). -/
abbrev State.windowsBounded (s : State) : Prop :=
  s.zones.a.windowsWithin s.depth ∧ s.zones.b.windowsWithin s.depth ∧ s.zones.cz.windowsWithin s.depth ∧
  s.trip.peakHistory.length ≤ s.depth

/-- The station safe to reason about: all of the above together. -/
structure State.Sound (s : State) : Prop where
  queues : s.queuesBounded
  frames : s.queuesWhole
  events : s.eventsBounded
  trips : s.tripsWhilePresent
  bf : s.bfFollowsTimer
  mode : s.modeFollows
  zones : s.zonesAgree
  row : s.oneRowOpen
  own : s.ownEntryFollows
  windows : s.windowsBounded

/-! ## What the statements about commands speak of -/

/-- A request as the bay controller sends it (R176, section 11.3). -/
def requestBytes (kind : Byte) (payload : List Byte) : List Byte :=
  let body := kind :: byte payload.length :: payload
  body ++ crcBytes body

/-- The eight requests of section 10.4: the kind byte of each, and its command for these characters. -/
def requestCommands (chars : List Byte) : List (Byte × Instr) :=
  [(kindStatus, .status chars), (kindRound, .round chars), (kindEvents, .events chars), (kindMembers, .members chars),
    (kindAckTrip, .ackTrip chars), (kindRelease, .release chars), (kindLeave, .leave chars), (kindRestart, .restart chars)]

/-- The station has power and no response in progress, its line is MATCHED, and these characters complete these bytes. -/
abbrev State.hears (s : State) (chars bs : List Byte) : Prop :=
  s.powered = true ∧ s.link.response = none ∧ s.linkGathered chars = some bs

/-- The station with a response built now and the receiver IDLE again, everything else as it was. -/
def State.answered (s : State) (kind : Byte) (status : ReplyStatus) (more : List Byte) (x : OnComplete) : State :=
  { s with link := { s.link with
      receiver := .idle
      response := some { bytes := responseBytes kind status more, sent := 0, builtAt := s.now, onComplete := x } } }

/-- The station has power, receives, and these characters complete these bytes on an in-lane (R37, R38, R53). -/
abbrev State.takesIn (s : State) (l : Lane) (chars bs : List Byte) : Prop :=
  s.powered = true ∧ s.receives = true ∧ (s.lane l).receiver.gathered chars = some bs

/-- The bytes are a whole good CONTRIB (R38, R41). -/
abbrev goodContribBytes (bs : List Byte) : Prop :=
  bs.head? = some leadContrib ∧ bs.length = 24 ∧ crcGood bs = true

/-- The bytes are a whole good LEAVE (R38, R41). -/
abbrev goodLeaveBytes (bs : List Byte) : Prop :=
  bs.head? = some leadLeave ∧ bs.length = 12 ∧ crcGood bs = true

/-- The station has power and a close point is due that the blocks take in a valid order (R4). -/
abbrev State.closes (s : State) (c : Configuration) (o : CloseOrder) : Prop :=
  s.powered = true ∧ s.life.config = some c ∧ s.closeDue = true ∧ o.valid = true

/-- A check point of the in-lane health is due (R49): a close point, or a local mark. -/
def State.checks (s : State) (c : Configuration) (p : CheckPoint) : Prop :=
  match p with
  | .close o => s.closes c o
  | .localMark _ => s.powered = true ∧ s.life.config = some c ∧ s.timer.mode = .localMarks

/-- The next mark can come: the timer runs, and no close point of the round in progress is still ahead (R2, R3, R4). -/
abbrev State.markComes (s : State) : Prop :=
  s.powered = true ∧ s.timer.mode ≠ .stopped ∧ s.closeAhead = false

/-- This read is the one that makes the candidate's count reach DEBOUNCE (R27). -/
abbrev Debounce.adoptsNow {α : Type} (limit : Nat) (read : α) (d : Debounce α) : Prop :=
  read ≠ d.value ∧ ∃ n, d.candidate = some (read, n) ∧ limit ≤ n + 1

/-- The read of an input at a mark makes its candidate's count reach DEBOUNCE. -/
def inputAdopts (i : BayInput) (limit : Nat) (l : BayLines) (a : Acquisition) : Prop :=
  match i with
  | .isolatorA => a.isoA.adoptsNow limit (linePositions l).isoA
  | .isolatorB => a.isoB.adoptsNow limit (linePositions l).isoB
  | .breaker => a.breaker.adoptsNow limit (linePositions l).breaker
  | .initiation => a.initiation.adoptsNow limit l.bfi

/-- An input's debounced value is the one the lines show, with no candidate. -/
def inputSettled (i : BayInput) (l : BayLines) (a : Acquisition) : Prop :=
  match i with
  | .isolatorA => a.isoA = ⟨(linePositions l).isoA, none⟩
  | .isolatorB => a.isoB = ⟨(linePositions l).isoB, none⟩
  | .breaker => a.breaker = ⟨(linePositions l).breaker, none⟩
  | .initiation => a.initiation = ⟨l.bfi, none⟩

/-- The inputs of a zone's steps at a close, and the record it starts them with: after any combination, and in MERGED mode
zone A's for zone B (R120, R127 to R129). -/
def zoneStart (c : Configuration) (t : State) (row : Row) (z : Zone) : ZoneInputs × ZoneRecord :=
  let cz := (zoneSteps c (czInputs t row) t.zones.cz).zone
  match z with
  | .cz => (czInputs t row, t.zones.cz)
  | .a => (aInputs t row cz, (stepCombine t).1)
  | .b => if t.replica.held.merged then (aInputs t row cz, (stepCombine t).1) else (bInputs t row cz, (stepCombine t).2.1)

/-- Those of the close now due, the Zone Evaluator finding the state that the blocks before it leave. -/
def State.zoneAtClose (s : State) (c : Configuration) (o : CloseOrder) (row : Row) (z : Zone) : ZoneInputs × ZoneRecord :=
  zoneStart c (s.closeBefore c o .zones) row z

/-- No member missing from the ring and no latch set: the zone's state follows the row (R121). -/
abbrev ZoneInputs.unblocked (x : ZoneInputs) (c : Configuration) (z : ZoneRecord) : Prop :=
  x.members ≠ [] ∧ x.absent = [] ∧ (zoneJudged c x z).latch = false

/-- The state in which the Trip Unit decides its output at the close now due: own peak taken and cause set formed (R139). -/
def State.tripDecides (s : State) (c : Configuration) (o : CloseOrder) : State :=
  ((s.closeBefore c o .trip).takePeak c).formCauses c

end Sys2Proof.Machine
end

