-- ==== Sys2Proof/Certificates/Slice0/Obligations.lean ====
section
/-! DEFINITION. The statements for the provers. Log entries (notes/assumptions) are named where a statement rests on one. -/

open Sys2Proof Sys2Proof.Machine

/-! ## The queue, time and power -/

/-- A step takes the command at the front of the queue: it is exec of that command on the state with the queue's rest. -/
def Obligations.StepRunsFrontCommand : Prop :=
  ∀ (c : Instr) (rest : List Instr) (s : State), s.pending = c :: rest → step s = exec c { s with pending := rest }

/-- With no command waiting, a step lets one microsecond pass, or nothing while a mark or close point is due or the part has
no power (the model's choice, log entry 1; phases count whole microseconds, R2). -/
def Obligations.IdleStepIsAMicrosecond : Prop :=
  ∀ s : State, s.pending = [] →
    (s.powered = true → s.clockFree = true → ∃ t, step s = .next t ∧ t.now = s.now + 1 ∧
      t.timer = { s.timer with phase := if s.timer.mode = .stopped then s.timer.phase else s.timer.phase + 1 } ∧
      t.acquisition = s.acquisition ∧ t.ring = s.ring ∧ t.table = s.table ∧ t.membership = s.membership ∧
      t.replica = s.replica ∧ t.zones = s.zones ∧ t.trip = s.trip ∧ t.life = s.life ∧ t.supply = s.supply ∧
      t.events = s.events ∧ t.link.rate = s.link.rate ∧ t.link.receiver = s.link.receiver ∧
      t.link.counters = s.link.counters ∧ t.link.response.isSome = s.link.response.isSome) ∧
    (s.powered = false ∨ s.clockFree = false → step s = .next s)

/-- No command faults, none is refused, and none touches the queue. That a command which is not due answers next with nothing
changed, and that no command ever faults or is refused, is the model's choice (log entries 2 and 27), not a rule of the spec. -/
def Obligations.EveryCommandAnswersNext : Prop := ∀ (c : Instr) (s : State), ∃ t, exec c s = .next t ∧ t.pending = s.pending

/-- Without power nothing but a POWER-ON reset happens (the model's reading of R157 and R171, log entry 10). -/
def Obligations.WithoutPowerOnlyPowerOnActs : Prop :=
  ∀ (c : Instr) (s : State), s.powered = false → (∀ straps mv, c ≠ .powerOn straps mv) → exec c s = .next s

/-! ## Resets and supply -/

/-- POWER_ON: with the supply at 2.70 V every block takes its reset values, the strap number is read, the cause is POWER-ON, and
the Event List holds the RESET record alone. The queue, the clock and the draw of free values are the model's own. The reset
values are those of State.reset, a round length and effective counts of 0 among them (the model's choice, log entry 7), and
POWER_ON acts on a part that has power too (the model's reading, log entry 10). -/
def Obligations.PowerOnResets : Prop :=
  ∀ (straps : Straps) (mv : Nat) (s : State), 2700 ≤ mv →
    exec (.powerOn straps mv) s = .next
      { State.reset with
        pending := s.pending
        now := s.now
        freeIndex := s.freeIndex
        life := LifeCycle.initial .powerOn straps.toNat
        events := { records := [{ kind := .reset, round := 0, subject := straps.toNat, detail := [1#8] }], lost := 0 } }

/-- SUPPLY_RESTORE: in LOW, with the supply 80 mV above the watched level, every block takes its reset values and the Event List is
kept with RESET offered; below that nothing happens. POWER_LOSS: in LOW, the part loses power and nothing else changes. The
reset values rest on log entry 7, that a restore not due changes nothing on log entry 2, and that POWER_LOSS acts in LOW alone
and takes the power away and nothing more on log entry 10: these three are the model's choices. -/
def Obligations.SupplyRestoreAndLoss : Prop :=
  (∀ (straps : Straps) (mv : Nat) (s : State), s.powered = true → s.supply.low = true → s.watchedLevel + 80 ≤ mv →
    exec (.supplyRestore straps mv) s = .next
      { State.reset with
        pending := s.pending
        now := s.now
        freeIndex := s.freeIndex
        life := LifeCycle.initial .supplyRestore straps.toNat
        events := s.events.offer { kind := .reset, round := 0, subject := straps.toNat, detail := [2#8] } }) ∧
  (∀ (straps : Straps) (mv : Nat) (s : State), mv < s.watchedLevel + 80 → exec (.supplyRestore straps mv) s = .next s) ∧
  (∀ s : State, s.powered = true → s.supply.low = true → exec .powerLoss s = .next { s with powered := false })

/-- SUPPLY_LOW below the watched level: the station enters HOLD, the timer stops with its round and phase, the output and the BF timer
are released, reception stops, SUPPLY_HOLD is offered with the state left and the ready flag, and a station in JOINING or
PRESENT queues a SUPPLY LEAVE on each out-lane that has room. From STABILISE and LISTEN the stage count and any capture are lost:
that this clears the captured-round flag and the instant standing for its mark, and no more, is the model's choice (log
entry 31). -/
def Obligations.SupplyLowHolds : Prop :=
  ∀ (mv : Nat) (s : State), s.powered = true → s.supply.low = false → mv < s.watchedLevel →
    let held : EventRecord :=
      { kind := .supplyHold
        round := s.timer.round
        subject := s.ownNumber
        detail := [byte s.life.state.code, if s.supply.ready then 1#8 else 0#8] }
    ∃ t, exec (.supplyLow mv) s = .next t ∧ t.life.state = .hold ∧ t.supply = { s.supply with low := true } ∧
      t.life.stageCount = (if s.life.state = .stabilise ∨ s.life.state = .listen then 0 else s.life.stageCount) ∧
      (s.life.state ≠ .stabilise → s.life.state ≠ .listen → t.timer = { s.timer with mode := .stopped }) ∧
      (s.life.state = .stabilise ∨ s.life.state = .listen →
        t.timer = { s.timer with mode := .stopped, captured := false, captureMark := none }) ∧
      t.acquisition = { s.acquisition with pendingScan := none } ∧
      (s.life.state = .present → t.trip.energised = false) ∧
      (s.life.state.contributing = true → t.trip.bfTimer = .idle ∧ t.trip.bfFlag = false) ∧
      (∀ l, (t.lane l).receiver = .hunt ∧ (t.lane l).clearPending = false ∧ (t.lane l).up = (s.lane l).up) ∧
      (∀ l, s.life.state.contributing = true → (s.lane l).intoHold.queue.length < 8 →
        ∃ f ∈ (t.lane l).queue, f.isOwnLeave = true ∧ f.bytes.getD 7 0 = leaveSupply) ∧
      (∀ l, s.life.state.contributing = false → (t.lane l).queue = (s.lane l).intoHold.queue) ∧
      ((s.life.state = .present → s.trip.energised = false) → (s.life.state.contributing = true → s.trip.bfFlag = false) →
        t.events = s.events.offer held) ∧
      (s.events.records.length ≤ 61 → held ∈ t.events.records) ∧
      t.table = s.table ∧ t.replica = s.replica ∧ t.zones = s.zones ∧ t.link = s.link ∧ t.now = s.now

/-- R185: what the three resets and the completion of an EVENTS response do to the Event List, how an offer joins it or is lost,
and that STATUS reports the lost count. -/
def Obligations.EventListAcrossResets : Prop :=
  (∀ (straps : Straps) (mv : Nat) (s : State), 2700 ≤ mv → ∃ t, exec (.powerOn straps mv) s = .next t ∧
    t.events = { records := [{ kind := .reset, round := 0, subject := straps.toNat, detail := [1#8] }], lost := 0 }) ∧
  (∀ (straps : Straps) (mv : Nat) (s : State), s.powered = true → s.supply.low = true → s.watchedLevel + 80 ≤ mv →
    ∃ t, exec (.supplyRestore straps mv) s = .next t ∧
      t.events = s.events.offer { kind := .reset, round := 0, subject := straps.toNat, detail := [2#8] }) ∧
  (∀ (straps : Straps) (s : State) (r : Response), s.powered = true → s.link.response = some r → r.onComplete = .restart →
    ∃ t, exec (.responseComplete straps) s = .next t ∧
      t.events = s.events.offer { kind := .reset, round := 0, subject := straps.toNat, detail := [3#8] }) ∧
  (∀ (straps : Straps) (s : State) (r : Response) (m : Nat), s.powered = true → s.link.response = some r →
    r.onComplete = .removeRecords m → ∃ t, exec (.responseComplete straps) s = .next t ∧
      t.events = { records := s.events.records.drop m, lost := s.events.lost }) ∧
  (∀ (e : EventList) (r : EventRecord),
    (e.records.length < 64 → e.offer r = { records := e.records ++ [r], lost := e.lost }) ∧
    (64 ≤ e.records.length → e.offer r = { records := e.records, lost := if e.lost < 65535 then e.lost + 1 else e.lost })) ∧
  (∀ (chars : List Byte) (s : State), s.hears chars (requestBytes kindStatus []) →
    ∃ t r, exec (.status chars) s = .next t ∧ t.events = s.events ∧ t.link.response = some r ∧
      (r.bytes.drop 128).take 2 = bytes2 s.events.lost)

/-! ## The configuration read and the marks -/

/-- CONFIG_READ_END with a good image: the station enters STABILISE with the image's parameters, its shared checksum and one fresh
entry for each roster station; the timer runs in LOCAL from the first local mark, and both line clears are asked for. With an
image that fails a check, the station enters CONFIG_FAULT with that result, without a configuration, and its timer runs in BARE
from the first bare mark. -/
def Obligations.ImageDecidesTheStart : Prop :=
  (∀ (b : List Byte) (x : BayLines) (s : State), s.powered = true → s.life.state = .start → b.length = readLength b →
     imageCheck s.life.strap b = .good →
     ∃ t, exec (.configReadEnd b x) s = .next t ∧ t.life.state = .stabilise ∧ t.life.config = some (configOf b) ∧
       t.life.checksum = some (crc16 (b.take (2 * imageCount b + 33))) ∧ t.life.lastCheck = some .good ∧ t.life.stageCount = 0 ∧
       t.membership.entries = (configOf b).roster.map Entry.fresh ∧
       t.timer.mode = .localMarks ∧ t.timer.phase = 0 ∧ t.timer.localCount = 1 ∧ t.timer.roundLength = (configOf b).period ∧
       (∀ l, (t.lane l).clearPending = true ∨ (t.lane l).transmitter = .clearing) ∧
       t.table = s.table ∧ t.replica = s.replica ∧ t.supply = s.supply ∧ t.link = s.link) ∧
  (∀ (b : List Byte) (x : BayLines) (s : State), s.powered = true → s.life.state = .start → b.length = readLength b →
     imageCheck s.life.strap b ≠ .good →
     ∃ t, exec (.configReadEnd b x) s = .next t ∧ t.life.state = .configFault ∧
       t.life.lastCheck = some (imageCheck s.life.strap b) ∧ t.life.config = s.life.config ∧
       t.timer.mode = .bare ∧ t.timer.phase = 0 ∧ t.events = s.events.offer
         { kind := .configFault, round := s.timer.round, subject := s.life.strap, detail := faultDetail b (imageCheck s.life.strap b) } ∧
       t.ring = s.ring ∧ t.table = s.table ∧ t.replica = s.replica ∧ t.zones = s.zones ∧ t.supply = s.supply ∧ t.link = s.link)

/-- BARE_MARK: the phase starts again, every read is adopted at once, a scan is begun or made pending; the ring, the tables, the
replica, the zones, the Trip Unit, the life cycle, the supply and the Event List keep their state. -/
def Obligations.BareMarkReadsRaw : Prop :=
  ∀ (x : BayLines) (s : State), s.powered = true → s.timer.mode = .bare → s.life.config = none →
    ∃ t, exec (.bareMark x) s = .next t ∧ t.timer.phase = 0 ∧ t.timer.mode = .bare ∧ t.timer.round = s.timer.round ∧
      t.acquisition.positions = linePositions x ∧ t.acquisition.initiation.value = x.bfi ∧
      (s.acquisition.scan = none → t.acquisition.scan = some .bare) ∧
      (s.acquisition.scan ≠ none → t.acquisition.scan = s.acquisition.scan ∧ t.acquisition.pendingScan = some .bare) ∧
      t.ring = s.ring ∧ t.table = s.table ∧ t.membership = s.membership ∧ t.replica = s.replica ∧ t.zones = s.zones ∧
      t.trip = s.trip ∧ t.life = s.life ∧ t.supply = s.supply ∧ t.events = s.events

/-- LOCAL_MARK before the last of its stage: the local round count and the stage count go up by one, the phase starts again, a scan
tagged LOCAL is begun or made pending. STABILISE_END: the 64th local mark of STABILISE makes the Supply Monitor ready and moves
the station to LISTEN, with both counts of local marks at 0. -/
def Obligations.LocalMarksRunTheirStages : Prop :=
  (∀ (x : BayLines) (s : State) (c : Configuration), s.powered = true → s.timer.mode = .localMarks → s.life.config = some c →
     (s.life.state = .stabilise ∧ s.life.stageCount + 1 < 64 ∨ s.life.state = .listen ∧ s.life.stageCount + 1 < 2 * c.lostRounds) →
     ∃ t, exec (.localMark x) s = .next t ∧ t.timer.phase = 0 ∧ t.timer.mode = .localMarks ∧ t.timer.round = s.timer.round ∧
       t.timer.localCount = (if s.timer.localCount < 65535 then s.timer.localCount + 1 else s.timer.localCount) ∧
       t.life = { s.life with stageCount := if s.life.stageCount < 64 then s.life.stageCount + 1 else s.life.stageCount } ∧
       (s.acquisition.scan = none → t.acquisition.scan = some .localMark) ∧
       (s.acquisition.scan ≠ none → t.acquisition.scan = s.acquisition.scan ∧ t.acquisition.pendingScan = some .localMark) ∧
       t.acquisition.quality = s.acquisition.quality ∧ t.table = s.table ∧ t.membership = s.membership ∧ t.replica = s.replica ∧
       t.zones = s.zones ∧ t.trip = s.trip ∧ t.supply = s.supply) ∧
  (∀ (x : BayLines) (s : State) (c : Configuration), s.powered = true → s.timer.mode = .localMarks → s.life.config = some c →
     s.life.state = .stabilise → s.life.stageCount = 63 →
     ∃ t, exec (.stabiliseEnd x) s = .next t ∧ t.life.state = .listen ∧ t.life.stageCount = 0 ∧ t.timer.localCount = 0 ∧
       t.timer.mode = .localMarks ∧ t.supply = { s.supply with ready := true } ∧ t.life.config = some c ∧
       t.table = s.table ∧ t.replica = s.replica ∧ t.zones = s.zones)

/-- START_OF_OWN_NUMBERING: the local mark that brings LISTEN to 2·LOST_ROUNDS becomes the mark of round 0, row 0 opens and the
station enters JOINING. -/
def Obligations.OwnNumberingStarts : Prop :=
  ∀ (x : BayLines) (s : State) (c : Configuration), s.powered = true → s.timer.mode = .localMarks → s.life.config = some c →
    s.life.state = .listen → s.life.stageCount + 1 = 2 * c.lostRounds →
    ∃ t, exec (.startOfOwnNumbering x) s = .next t ∧ t.life.state = .joining ∧ t.timer.mode = .numbered ∧ t.timer.round = 0 ∧
      t.timer.phase = 0 ∧ t.timer.roundLength = c.period ∧ t.timer.pendingAdjustment = none ∧ t.timer.captured = false ∧
      t.timer.history = [(t.now : Int)] ∧ t.table.openRow = some (Row.fresh 0) ∧ t.table.newest = none ∧ t.table.older = none ∧
      (s.acquisition.scan = none → t.acquisition.scan = some (.round 0)) ∧
      (∀ e ∈ t.membership.entries, e.station = c.station → e.state = .joining) ∧
      t.replica = s.replica ∧ t.zones = s.zones ∧ t.supply = s.supply

/-- ROUND_MARK: the round number goes up by one modulo 65536, the round starts afresh at length PERIOD, its scan carries the new
number, a station that captured in LISTEN enters JOINING, and the ring, the Round Table, the replica, the zones, the Trip Unit
and the supply keep their state; outside LISTEN the life cycle, the Membership Table and the Event List do too. -/
def Obligations.RoundMarkAdvances : Prop :=
  ∀ (x : BayLines) (s : State) (c : Configuration), s.powered = true → s.timer.mode = .numbered → s.closeAhead = false →
    s.life.config = some c →
    ∃ t, exec (.roundMark x) s = .next t ∧ t.timer.mode = .numbered ∧ t.timer.round = s.timer.round + 1 ∧ t.timer.phase = 0 ∧
      t.timer.roundLength = c.period ∧ t.timer.pendingAdjustment = none ∧ t.timer.captured = false ∧
      t.timer.history = ((t.now : Int) :: s.timer.history).take 3 ∧
      (s.acquisition.scan = none → t.acquisition.scan = some (.round (s.timer.round + 1))) ∧
      (s.acquisition.scan ≠ none → t.acquisition.pendingScan = some (.round (s.timer.round + 1))) ∧
      t.acquisition.quality = s.acquisition.quality ∧ t.acquisition.currents = s.acquisition.currents ∧
      t.life.state = (if s.life.state = .listen then .joining else s.life.state) ∧ t.life.config = s.life.config ∧
      t.ring = s.ring ∧ t.table = s.table ∧ t.replica = s.replica ∧ t.zones = s.zones ∧ t.trip = s.trip ∧ t.supply = s.supply ∧
      (s.life.state ≠ .listen → t.life = s.life ∧ t.membership = s.membership ∧ t.events = s.events)

/-- DEBOUNCE_ADOPT: at the mark whose read makes an input's candidate count reach DEBOUNCE, the read becomes the debounced value and
the candidate is discarded. -/
def Obligations.DebounceAdopts : Prop :=
  ∀ (i : BayInput) (x : BayLines) (s : State) (c : Configuration), s.markComes → s.life.config = some c →
    inputAdopts i c.debounce x s.acquisition →
    ∃ t, exec (.debounceAdopt i x) s = .next t ∧ inputSettled i x t.acquisition ∧ t.timer.phase = 0 ∧
      t.acquisition.quality = s.acquisition.quality ∧ t.acquisition.ref = s.acquisition.ref ∧ t.replica = s.replica ∧
      t.zones = s.zones ∧ t.trip.energised = s.trip.energised

/-! ## Scans -/

/-- SCAN_COMPLETE with a configuration in force: the REF count and the three scaled currents are stored, the pending scan begins, and
the timer, the zone picture, the zones, the supply and the link keep their state. Without a configuration, as in CONFIG_FAULT,
the counts themselves are stored, the pending scan begins, and nothing else changes: no check, no record, no block told. -/
def Obligations.ScanStores : Prop :=
  (∀ (n : ScanCounts) (s : State) (c : Configuration) (tag : ScanTag), s.powered = true → s.life.config = some c →
     s.acquisition.scan = some tag →
     ∃ t, exec (.scanComplete n) s = .next t ∧ t.acquisition.ref = some n.ref.toInt ∧
       t.acquisition.currents = some
         { a := scaleCount c.scaleA c.ctPolarity n.ia.toInt
           b := scaleCount c.scaleB c.ctPolarity n.ib.toInt
           c := scaleCount c.scaleC c.ctPolarity n.ic.toInt } ∧
       t.acquisition.scan = s.acquisition.pendingScan ∧ t.acquisition.pendingScan = none ∧
       t.acquisition.positions = s.acquisition.positions ∧ t.acquisition.initiation = s.acquisition.initiation ∧
       t.timer = s.timer ∧ t.replica = s.replica ∧ t.zones = s.zones ∧ t.supply = s.supply ∧ t.link = s.link ∧
       t.life.state = s.life.state ∧ t.table.newest = s.table.newest ∧ t.table.older = s.table.older ∧
       t.trip = { s.trip with peakHistory := t.trip.peakHistory } ∧
       (((∃ k, tag = .round k) ∨ tag = .void) ∧ s.life.state.working = true → t.trip.peakHistory = lastN c.w
         (s.trip.peakHistory ++ [{ currents := scanCurrents (some c) n, quality := t.acquisition.quality }])) ∧
       (¬ (((∃ k, tag = .round k) ∨ tag = .void) ∧ s.life.state.working = true) → t.trip.peakHistory = s.trip.peakHistory)) ∧
  (∀ (n : ScanCounts) (s : State) (tag : ScanTag), s.powered = true → s.life.config = none → s.acquisition.scan = some tag →
    exec (.scanComplete n) s = .next { s with acquisition := { s.acquisition with
      ref := some n.ref.toInt
      currents := some { a := n.ia.toInt, b := n.ib.toInt, c := n.ic.toInt }
      scan := s.acquisition.pendingScan
      pendingScan := none } })

/-- R25: the quality and its two runs after a scan, row by row of the rule's table, with the records of the two changes; ACQ_FAULT and
ACQ_RESTORED complete the scans of those changes. -/
def Obligations.QualityFollowsReference : Prop :=
  ∀ (n : ScanCounts) (s : State) (c : Configuration) (tag : ScanTag), s.powered = true → s.life.config = some c →
    s.acquisition.scan = some tag →
    ∃ t, exec (.scanComplete n) s = .next t ∧
      (s.acquisition.quality = .valid → refGood c n.ref.toInt = true →
        t.acquisition.quality = .valid ∧ t.acquisition.missRun = 0 ∧ t.events = s.events) ∧
      (s.acquisition.quality = .valid → refGood c n.ref.toInt = false → s.acquisition.missRun = 0 →
        t.acquisition.quality = .valid ∧ t.acquisition.missRun = 1 ∧ t.events = s.events) ∧
      (s.acquisition.quality = .valid → refGood c n.ref.toInt = false → s.acquisition.missRun = 1 →
        exec (.acqFault n) s = .next t ∧
        t.acquisition.quality = .invalid ∧ t.acquisition.missRun = 0 ∧ t.acquisition.goodRun = 0 ∧
        t.events = s.events.offer
          { kind := .acqFault, round := s.timer.round, subject := c.station, detail := signed16 n.ref.toInt }) ∧
      (s.acquisition.quality = .invalid → refGood c n.ref.toInt = true → s.acquisition.goodRun < 15 →
        t.acquisition.quality = .invalid ∧ t.acquisition.goodRun = s.acquisition.goodRun + 1 ∧ t.events = s.events) ∧
      (s.acquisition.quality = .invalid → refGood c n.ref.toInt = true → s.acquisition.goodRun = 15 →
        exec (.acqRestored n) s = .next t ∧
        t.acquisition.quality = .valid ∧ t.acquisition.goodRun = 0 ∧ t.acquisition.missRun = 0 ∧
        t.events = s.events.offer
          { kind := .acqRestored, round := s.timer.round, subject := c.station, detail := signed16 n.ref.toInt }) ∧
      (s.acquisition.quality = .invalid → refGood c n.ref.toInt = false →
        t.acquisition.quality = .invalid ∧ t.acquisition.goodRun = 0 ∧ t.events = s.events) ∧
      (∀ k, tag = .round k → s.life.state.contributing = true → t.trip.peakHistory = lastN c.w
        (s.trip.peakHistory ++ [{ currents := scanCurrents (some c) n, quality := t.acquisition.quality }]))

/-- SCAN_COMPLETE of a round's scan in JOINING or PRESENT with the own slot free: the own contribution, with the sender state, quality,
lane health, bay status, verdict, release requests, lowest-present number and currents of that instant, fills the own slot, a
frame of that content, with the own number, round k, no hops and the shared checksum, joins the tail of each out-lane or is
counted as dropped, and the pending release set is emptied. Read back, such a frame gives every field it was built from. -/
def Obligations.OwnContributionBuilt : Prop :=
  (∀ (n : ScanCounts) (s : State) (c : Configuration) (k : Round) (row : Row), s.powered = true → s.life.config = some c →
     s.acquisition.scan = some (.round k) → s.life.state.contributing = true → s.table.openRow = some row → row.round = k →
     row.body c.station = .empty → c.station < row.slots.length →
     ∃ t row' content, exec (.scanComplete n) s = .next t ∧ t.table.openRow = some row' ∧ row'.round = k ∧
       content =
         { sender := if s.life.state = .present then .present else .joining
           quality := t.acquisition.quality
           eUp := s.ring.two.up
           wUp := s.ring.one.up
           status := { positions := s.acquisition.positions, bf := s.trip.bfFlag }
           tripped := if s.life.state = .present then s.zones.verdict else BusSet.empty
           release := s.life.pendingRelease
           lowest := s.lowestPresent
           currents := scanCurrents (some c) n } ∧
       row'.body c.station = .filled content none ∧
       (∀ m, m ≠ c.station → row'.body m = row.body m) ∧
       t.life = { s.life with pendingRelease := ZoneSet.empty } ∧
       (∀ l, (s.lane l).queue.length < 8 → (t.lane l).queue.length = (s.lane l).queue.length + 1 ∧
         ∃ f, (t.lane l).queue.getLast? = some f ∧ f.source = .own ∧ f.bytes.length = 24 ∧
           f.bytes.take 4 = [leadContrib, byte c.station] ++ bytes2 k.toNat ∧
           (f.bytes.drop 6).take 16 = [0#8] ++ content.bytes ++ bytes2 (s.life.checksum.getD 0).toNat) ∧
       (∀ l, 8 ≤ (s.lane l).queue.length → (t.lane l).queue = (s.lane l).queue ∧
         (t.lane l).counters.queueFull = bump16 (s.lane l).counters.queueFull) ∧
       (∀ l, (t.lane l).receiver = (s.lane l).receiver ∧ (t.lane l).up = (s.lane l).up)) ∧
  (∀ (n : Nat) (k checksum : Round) (x : Content), n < 40 → (x.lowest < 40 ∨ x.lowest = 0xFF) →
    (∀ p, (x.currents.get p).natAbs ≤ 8388607) →
    readContrib (contribBytes n k x checksum) =
      { origin := n, round := k, age := 0, hops := 0, content := x, checksum := checksum })

/-! ## Close points -/

/-- CLOSE_POINT: row k becomes the newest closed row, the newest becomes the older, row k + 1 opens empty, and the settling interval
ends. The round goes on; the Acquisition Unit, the supply and the request in progress keep their state. -/
def Obligations.CloseTurnsRows : Prop :=
  ∀ (o : CloseOrder) (s : State) (c : Configuration) (row : Row), s.closes c o → s.table.openRow = some row →
    ∃ t, exec (.closePoint o) s = .next t ∧ t.table.openRow = some (Row.fresh (row.round + 1)) ∧ t.table.newest = some row ∧
      t.table.older = s.table.newest ∧ t.table.settling = false ∧ t.table.counters = s.table.counters ∧
      t.timer.mode = s.timer.mode ∧ t.timer.round = s.timer.round ∧ t.timer.history = s.timer.history ∧ t.timer.phase = c.close ∧
      t.acquisition = s.acquisition ∧ t.supply = s.supply ∧ t.link.receiver = s.link.receiver ∧
      t.link.counters = s.link.counters ∧ t.life.config = s.life.config ∧
      (∀ l, (t.lane l).receiver = (s.lane l).receiver ∧ (t.lane l).counters = (s.lane l).counters)

/-- CLOSE_POINT in JOINING, PRESENT or LEAVING: a largest lead of row k above 2 µs, among the contributions sent in PRESENT, shortens
round k by that lead, 25 µs at most; with no such lead the round keeps its length. -/
def Obligations.ClosePullsIn : Prop :=
  ∀ (o : CloseOrder) (s : State) (c : Configuration) (row : Row), s.closes c o → s.table.openRow = some row →
    s.life.state.working = true →
    ∃ t, exec (.closePoint o) s = .next t ∧
      (∀ x, largestLead (row.slots.filterMap slotLead) = some x → 2 < x → t.life.state ≠ .excluded →
        t.timer.pendingAdjustment = some (min x 25).toNat ∧ t.timer.roundLength = c.period - (min x 25).toNat) ∧
      ((∀ x, largestLead (row.slots.filterMap slotLead) = some x → x ≤ 2) →
        t.timer.pendingAdjustment = s.timer.pendingAdjustment ∧ t.timer.roundLength = s.timer.roundLength)

/-- ENTRY_PRESENT: a JOINING peer entry heard in row k whose join run reaches JOIN_ROUNDS becomes PRESENT with both runs at 0.
ENTRY_LOST: a PRESENT peer entry not heard in row k whose miss run reaches LOST_ROUNDS becomes LOST. -/
def Obligations.PeerBecomesPresentOrLost : Prop :=
  (∀ (n : Nat) (o : CloseOrder) (s : State) (c : Configuration) (row : Row) (e : Entry), s.closes c o →
     s.table.openRow = some row → n ≠ c.station → s.entry n = some e → e.state = .joining → e.heard row = true →
     c.joinRounds ≤ e.joinRun + 1 →
     ∃ t e', exec (.entryPresent n o) s = .next t ∧ t.entry n = some e' ∧ e'.state = .present ∧ e'.joinRun = 0 ∧ e'.missRun = 0 ∧
       e'.closing.state = .present ∧ e'.late = e.late ∧ t.table.newest = some row) ∧
  (∀ (n : Nat) (o : CloseOrder) (s : State) (c : Configuration) (row : Row) (e : Entry), s.closes c o →
     s.table.openRow = some row → n ≠ c.station → s.entry n = some e → e.state = .present → e.heard row = false →
     c.lostRounds ≤ e.missRun + 1 →
     ∃ t e', exec (.entryLost n o) s = .next t ∧ t.entry n = some e' ∧ e'.state = .lost ∧ e'.missRun = 0 ∧
       e'.closing.state = .lost ∧ e'.lastKnown = e.lastKnown ∧ t.table.newest = some row)

/-- ENDZONE_RELEASE: a coupler whose open run stands at ENDZONE_ROUNDS after the Membership update of row k, and which the held replica
does not have RELEASED, is RELEASED in the replica of row k and not counted. ISOLATOR_STUCK: an isolator whose indefinite run
stands at RUN_LIMIT after that update, and which the held replica does not have STUCK, is STUCK in the replica of row k. -/
def Obligations.CouplerReleasedOrIsolatorStuck : Prop :=
  (∀ (n : Nat) (o : CloseOrder) (s : State) (c : Configuration) (e : Entry), s.closes c o →
     (s.closeBefore c o .replica).entry n = some e → e.kind ≠ .feeder → e.openRun = c.endzoneRounds →
     s.replica.held.releasedIn n = false →
     ∃ t r, exec (.endzoneRelease n o) s = .next t ∧ recordOf t.replica.held.records n = some r ∧ r.released = true ∧
       r.counted = false ∧ t.replica.previous = s.replica.held) ∧
  (∀ (n : Nat) (bus : Bus) (o : CloseOrder) (s : State) (c : Configuration) (e : Entry), s.closes c o →
     (s.closeBefore c o .replica).entry n = some e →
     (bus = .a → e.indefiniteA = c.runLimit) → (bus = .b → e.indefiniteB = c.runLimit) → s.replica.held.stuckIn n bus = false →
     ∃ t, exec (.isolatorStuck n bus o) s = .next t ∧ t.replica.held.stuckIn n bus = true ∧ t.replica.previous = s.replica.held)

/-- CLOSE_POINT: the replica of row k, formed from the closing records that the Membership Table leaves (u). An isolator that is not
OPEN, or a station without a status, is connected; a feeder connected to both busbars makes the replica MERGED. Each entry has its
record: connections, STUCK isolators, end-zone condition, counted mark, own trip zones. In a SPLIT replica the feeders of one
busbar alone are members of its zone with +1 and the counted couplers of both zones, −p in A and +p in B; in a MERGED one every
connected feeder is a member of both; every connected feeder is a member of CZ. The sets ascend, and a zone is stuck that holds a
station with a STUCK isolator. REPLICA_MERGE and REPLICA_SPLIT are recorded. -/
def Obligations.ReplicaFormed : Prop :=
  ∀ (o : CloseOrder) (s : State) (c : Configuration) (row : Row) (u : State), s.closes c o → s.table.openRow = some row →
    s.closeBefore c o .replica = u →
    let onBus (value : Positions → DoubleBit) (e : Entry) : Prop :=
      ∀ b, e.closing.rowStatus = some b → value b.positions ≠ .opened
    let onA := onBus Positions.isoA
    let onB := onBus Positions.isoB
    ∃ t r, exec (.closePoint o) s = .next t ∧ t.replica = { held := r, previous := s.replica.held } ∧ r.round = some row.round ∧
      (r.merged = true ↔ ∃ e ∈ u.membership.entries, e.kind = .feeder ∧ onA e ∧ onB e) ∧
      List.Forall₂ (fun (e : Entry) (x : StationRecord) =>
        x.station = e.station ∧ x.kind = e.kind ∧ x.status = e.closing.rowStatus.map BayStatus.positions ∧
        (x.connectedA = true ↔ onA e) ∧ (x.connectedB = true ↔ onB e) ∧
        (x.stuckA = true ↔ e.indefiniteA = c.runLimit) ∧ (x.stuckB = true ↔ e.indefiniteB = c.runLimit) ∧
        (x.released = true ↔ e.kind ≠ .feeder ∧ e.openRun = c.endzoneRounds) ∧
        (x.counted = true ↔ e.kind ≠ .feeder ∧ onA e ∧ onB e ∧ x.released = false) ∧
        (e.kind ≠ .feeder → x.tripZones = { a := x.connectedA, b := x.connectedB }) ∧
        (e.kind = .feeder → r.merged = false →
          x.tripZones = { a := x.connectedA && !x.connectedB, b := x.connectedB && !x.connectedA }) ∧
        (e.kind = .feeder → r.merged = true →
          x.tripZones = { a := x.connectedA || x.connectedB, b := x.connectedA || x.connectedB }))
        u.membership.entries r.records ∧
      (∀ (n : Nat) (x : StationRecord) (p : Polarity), n < 40 → recordOf r.records n = some x →
        ({ station := n, sign := p } ∈ r.setA ↔
          x.kind = .feeder ∧ p = .plus ∧ x.connectedA = true ∧ (r.merged = true ∨ x.connectedB = false) ∨
          x.kind = .feeder ∧ p = .plus ∧ x.connectedB = true ∧ r.merged = true ∨
          ∃ q, x.kind = .coupler q ∧ p ≠ q ∧ x.counted = true ∧ r.merged = false) ∧
        ({ station := n, sign := p } ∈ r.setB ↔
          x.kind = .feeder ∧ p = .plus ∧ x.connectedB = true ∧ (r.merged = true ∨ x.connectedA = false) ∨
          x.kind = .feeder ∧ p = .plus ∧ x.connectedA = true ∧ r.merged = true ∨
          x.kind = .coupler p ∧ x.counted = true ∧ r.merged = false) ∧
        ({ station := n, sign := p } ∈ r.setCZ ↔
          x.kind = .feeder ∧ p = .plus ∧ (x.connectedA = true ∨ x.connectedB = true))) ∧
      (∀ z, ((r.members z).map Member.station).Pairwise (· < ·) ∧
        (∀ m ∈ r.members z, m.station < 40 ∧ (recordOf r.records m.station).isSome = true) ∧
        (r.stuck.has z = true ↔
          ∃ m ∈ r.members z, ∃ x, recordOf r.records m.station = some x ∧ (x.stuckA = true ∨ x.stuckB = true))) ∧
      (u.events.records.length < 64 → s.replica.held.merged = false → r.merged = true →
        { kind := .replicaMerge, round := s.timer.round, subject := r.joiners.headD 0xFF, detail := [byte r.joiners.length] } ∈
          t.events.records) ∧
      (u.events.records.length < 64 → s.replica.held.merged = true → r.merged = false →
        { kind := .replicaSplit, round := s.timer.round, subject := s.replica.held.joiners.headD 0xFF, detail := [0#8] } ∈
          t.events.records)

/-- CLOSE_POINT: the mode of the Zone Evaluator follows the replica of row k, each zone is taken through its steps with the member set
of that replica and the row, and in MERGED mode B's record equals A's, a release request for either concerning both. At a merge A
and B start from one combined record, at a split from A's record with the windows, marks, previous restraints and supervision
runs cleared, and otherwise from their own. The arming count of a combined state other than ARMING is not stated (log entry 29). -/
def Obligations.ZonesMergeAndSplit : Prop :=
  ∀ (o : CloseOrder) (s : State) (c : Configuration) (row : Row), s.closes c o → s.table.openRow = some row →
    let x (z : Zone) : ZoneInputs := (s.zoneAtClose c o row z).1
    let start (z : Zone) : ZoneRecord := (s.zoneAtClose c o row z).2
    let a := s.zones.a
    let b := s.zones.b
    let viewA : ZoneState := if a.state = .inactive ∧ b.state ≠ .inactive then .active else a.state
    let viewB : ZoneState := if b.state = .inactive ∧ a.state ≠ .inactive then .active else b.state
    let either (st : ZoneState) : Prop := viewA = st ∨ viewB = st
    let cleared (p : PhaseRecord) : PhaseRecord :=
      { p with window := [], markHold := 0, previousHigh := false, supervisionRun := 0 }
    ∃ t, exec (.closePoint o) s = .next t ∧ t.zones.merged = t.replica.held.merged ∧
      (∀ z, t.zones.get z = (zoneSteps c (x z) (start z)).zone) ∧
      (t.zones.merged = true → t.zones.b = t.zones.a) ∧
      (∀ z, (x z).row = row ∧ (z = .b → t.zones.merged = false) →
        (x z).members = t.replica.held.members z ∧ (x z).previous = t.replica.previous.members z ∧
        (x z).stuck = t.replica.held.stuck.has z ∧
        (x z).absent = ((x z).members.map Member.station).filter (fun n => !closingPresent t.membership.entries n) ∧
        ((x z).complete = true ↔ (x z).members ≠ [] ∧
          ∀ m ∈ (x z).members, ∃ k, row.content m.station = some k ∧ k.quality = .valid) ∧
        (∀ asked : ZoneSet, (x z).asks asked = (asked.has z || (z == .a && t.zones.merged && asked.b)))) ∧
      (∀ z, (x z).row = row) ∧ start .cz = s.zones.cz ∧
      (s.zones.merged = t.zones.merged → start .a = a) ∧
      (s.zones.merged = false → t.zones.merged = false → start .b = b) ∧
      (s.zones.merged = true → t.zones.merged = false →
        start .a = { a with phases := a.phases.map cleared } ∧ start .b = start .a) ∧
      (s.zones.merged = false → t.zones.merged = true → start .b = start .a ∧
        (a.state = .inactive ∧ b.state = .inactive → (start .a).state = .inactive) ∧
        (either .blocked → (start .a).state = .blocked) ∧
        (either .arming → ¬ either .blocked → (start .a).state = .arming ∧
          (a.state = .arming → b.state = .arming → (start .a).armingCount = min a.armingCount b.armingCount) ∧
          (a.state = .arming → b.state ≠ .arming → (start .a).armingCount = a.armingCount) ∧
          (a.state ≠ .arming → b.state = .arming → (start .a).armingCount = b.armingCount)) ∧
        (either .tripped → ¬ either .blocked → ¬ either .arming → (start .a).state = .tripped) ∧
        (either .active → ¬ either .blocked → ¬ either .arming → ¬ either .tripped → (start .a).state = .active) ∧
        (start .a).gapCount =
          max (if a.state = .inactive then 0 else a.gapCount) (if b.state = .inactive then 0 else b.gapCount) ∧
        (start .a).clearRun = 0 ∧ (start .a).latch = (a.latch || b.latch) ∧
        ∀ p, cleared ((start .a).phases.get p) = (start .a).phases.get p)

/-- CLOSE_POINT, R116: on a row that is complete for a zone every phase gets O and S, the absolute value of the signed sum and the sum
of the absolute values of the member currents, and its condition from PICKUP and SLOPE; on an incomplete row all three are absent;
with at most 40 members and currents of at most 8 388 607 A both lie in 0..335 544 280. -/
def Obligations.ZoneQuantities : Prop :=
  (∀ (z : Zone) (p : Phase) (o : CloseOrder) (s : State) (c : Configuration) (row : Row), s.closes c o →
    s.table.openRow = some row →
    ∃ t, exec (.closePoint o) s = .next t ∧
      let ms := (s.zoneAtClose c o row z).1.members
      let q := (t.zones.get z).phases.get p
      let bigO := ((ms.map (fun m : Member => polaritySign m.sign * memberCurrent row p m)).sum).natAbs
      let bigS := (ms.map (fun m : Member => (memberCurrent row p m).natAbs)).sum
      ((s.zoneAtClose c o row z).1.complete = true → q.operate = some bigO ∧ q.restraint = some bigS ∧
        q.condition = some (decide (c.pickup ≤ bigO ∧ (if z = .cz then c.slopeC else c.slopeZ) * bigS ≤ 16 * bigO))) ∧
      ((s.zoneAtClose c o row z).1.complete = false → q.operate = none ∧ q.restraint = none ∧ q.condition = none)) ∧
  (∀ (row : Row) (p : Phase) (ms : List Member), ms.length ≤ 40 →
    (∀ m ∈ ms, (memberCurrent row p m).natAbs ≤ 8388607) →
    operateQuantity row p ms ≤ 335544280 ∧ restraintQuantity row p ms ≤ 335544280)

/-- ARMED: an unblocked ARMING zone whose arming count reaches ARM_ROUNDS on a complete row becomes ACTIVE. -/
def Obligations.ZoneArms : Prop :=
  ∀ (z : Zone) (o : CloseOrder) (s : State) (c : Configuration) (row : Row) (x : ZoneInputs) (z0 : ZoneRecord), s.closes c o →
    s.table.openRow = some row → s.zoneAtClose c o row z = (x, z0) → x.unblocked c z0 → x.complete = true →
    z0.state = .arming → c.armRounds ≤ z0.armingCount + 1 → (s.zones.get z).state ≠ .active →
    ∃ t, exec (.armed z o) s = .next t ∧ (t.zones.get z).state = .active ∧ (t.zones.get z).armingCount = 0 ∧
      (t.zones.get z).gapCount = 0 ∧ t.zones.merged = (s.closeBefore c o .zones).replica.held.merged

/-- CLOSE_POINT: a zone's state on a row. An empty member set makes it INACTIVE, a set latch or an absent member BLOCKED. Otherwise on a
complete row each phase has its through-fault mark held HOLD_TF rows on a restraint that rises to INCEPT times PICKUP with the
condition false, its window extended to the last W conditions, W or COUNT_M as effective count, and is faulted when that many are
true, all after a clearing where the member set changed. An INACTIVE or BLOCKED zone begins ARMING, and an ACTIVE busbar zone
trips when some phase is faulted in it and in an ACTIVE CZ, and only then; ZONE_STATE gives the lowest such phase; CZ stays
ACTIVE. The verdict is the set of TRIPPED zones. -/
def Obligations.ZoneJudgedAndTripped : Prop :=
  ∀ (z : Zone) (o : CloseOrder) (s : State) (c : Configuration) (row : Row) (x : ZoneInputs) (z0 : ZoneRecord), s.closes c o →
    s.table.openRow = some row → s.zoneAtClose c o row z = (x, z0) →
    let changed := x.members ≠ x.previous
    let confirmed (t : State) (p : Phase) : Prop := ((t.zones.get z).phases.get p).faulted = true ∧
      (t.zones.cz.phases.get p).faulted = true ∧ t.zones.cz.state = .active
    ∃ t, exec (.closePoint o) s = .next t ∧
      (x.members = [] → (t.zones.get z).state = .inactive ∧ (t.zones.get z).armingCount = 0 ∧ (t.zones.get z).gapCount = 0 ∧
        (t.zones.get z).clearRun = 0) ∧
      (x.members ≠ [] → (zoneJudged c x z0).latch = true ∨ x.absent ≠ [] → (t.zones.get z).state = .blocked ∧
        (t.zones.get z).armingCount = 0 ∧ (t.zones.get z).gapCount = 0 ∧ (t.zones.get z).clearRun = 0) ∧
      (x.unblocked c z0 → x.complete = true →
        (∀ p, ∃ condition restraint,
          let before := z0.phases.get p
          let after := (t.zones.get z).phases.get p
          let high : Bool := decide (c.incept * c.pickup ≤ restraint)
          let wasHigh : Bool := if changed then false else before.previousHigh
          let hold := if changed then 0 else before.markHold
          let window := (if changed then [] else before.window) ++ [condition]
          after.condition = some condition ∧ after.restraint = some restraint ∧ after.previousHigh = high ∧
          after.markHold = (if high = true ∧ wasHigh = false ∧ condition = false then c.holdTf else hold - 1) ∧
          after.window = window.drop (window.length - c.w) ∧
          after.effectiveCount = (if 0 < after.markHold ∨ x.stuck = true then c.w else c.countM) ∧
          (after.faulted = true ↔ after.effectiveCount ≤ after.window.count true)) ∧
        (z0.state = .inactive ∨ z0.state = .blocked → (t.zones.get z).state = .arming ∧ (t.zones.get z).armingCount = 1) ∧
        (z0.state = .arming → z0.armingCount + 1 < c.armRounds →
          (t.zones.get z).state = .arming ∧ (t.zones.get z).armingCount = z0.armingCount + 1) ∧
        (z ≠ .cz → z0.state = .active → (∃ p, confirmed t p) →
          (t.zones.get z).state = .tripped ∧ (t.zones.get z).gapCount = 0 ∧ (t.zones.get z).clearRun = 0 ∧
          ((s.closeBefore c o .zones).events.records.length ≤ 55 → (s.zones.get z).state ≠ .tripped →
            ∃ p, confirmed t p ∧ (∀ q, phaseCode q < phaseCode p → ¬ confirmed t q) ∧
              { kind := .zoneState, round := s.timer.round, subject := zoneCode z,
                detail := [byte (s.zones.get z).state.code, byte ZoneState.tripped.code, 6#8, byte (phaseCode p)] } ∈
                t.events.records)) ∧
        (z ≠ .cz → z0.state = .active → (¬ ∃ p, confirmed t p) →
          (t.zones.get z).state = .active ∧ (t.zones.get z).gapCount = 0) ∧
        (z = .cz → z0.state = .active → t.zones.cz.state = .active ∧ t.zones.cz.gapCount = 0)) ∧
      t.zones.verdict = { a := t.zones.a.state == .tripped, b := t.zones.b.state == .tripped }

/-- CLEAR: an unblocked TRIPPED busbar zone with no phase faulted on a complete row whose clear run reaches W returns to ACTIVE. -/
def Obligations.ZoneClears : Prop :=
  ∀ (z : Zone) (o : CloseOrder) (s : State) (c : Configuration) (row : Row) (x : ZoneInputs) (z0 : ZoneRecord), s.closes c o →
    s.table.openRow = some row → z ≠ .cz → s.zoneAtClose c o row z = (x, z0) → x.unblocked c z0 → x.complete = true →
    z0.state = .tripped → (zoneJudged c x z0).phases.any PhaseRecord.faulted = false → c.w ≤ z0.clearRun + 1 →
    (s.zones.get z).state ≠ .active →
    ∃ t, exec (.clear z o) s = .next t ∧ (t.zones.get z).state = .active ∧ (t.zones.get z).clearRun = 0 ∧
      (t.zones.get z).gapCount = 0 ∧ (z = .a → t.zones.verdict.a = false) ∧ (z = .b → t.zones.verdict.b = false)

/-- GAPS: an unblocked ACTIVE zone whose gap count reaches 2 on an incomplete row becomes BLOCKED with its windows emptied. -/
def Obligations.ZoneBlocksOnGaps : Prop :=
  ∀ (z : Zone) (o : CloseOrder) (s : State) (c : Configuration) (row : Row) (x : ZoneInputs) (z0 : ZoneRecord), s.closes c o →
    s.table.openRow = some row → s.zoneAtClose c o row z = (x, z0) → x.unblocked c z0 → x.complete = false →
    z0.state = .active → 2 ≤ z0.gapCount + 1 → (s.zones.get z).state ≠ .blocked →
    ∃ t, exec (.gaps z o) s = .next t ∧ (t.zones.get z).state = .blocked ∧ (t.zones.get z).gapCount = 0 ∧
      (t.zones.get z).armingCount = 0 ∧ ∀ p, ((t.zones.get z).phases.get p).window = []

/-- SUPERVISION_LATCH: a zone in which a phase's supervision run reaches SUP_TIME on a qualifying row gets its latch set, every run
emptied, and is BLOCKED. -/
def Obligations.SupervisionLatches : Prop :=
  ∀ (z : Zone) (o : CloseOrder) (s : State) (c : Configuration) (row : Row) (x : ZoneInputs) (z0 : ZoneRecord), s.closes c o →
    s.table.openRow = some row → s.zoneAtClose c o row z = (x, z0) →
    runsReached c x (zoneSupervised c x z0) ≠ [] →
    ∃ t, exec (.supervisionLatch z o) s = .next t ∧ (t.zones.get z).latch = true ∧ (t.zones.get z).state = .blocked ∧
      ∀ p, ((t.zones.get z).phases.get p).supervisionRun = 0

/-- CLOSE_POINT: the causes and the trip output. The effective confirmation is min(CONFIRM, P), P the peers PRESENT at this close (stored
without the bound 2 of the item's range: the model's choice, log entry 30). In JOINING and PRESENT a busbar zone is a cause when
it is one of the own trip zones, TRIPPED, and named by that many PRESENT peers in row k or the row before; a PRESENT station whose
contribution of row k carries the BF flag and whose own trip zones meet this station's is a BF source; in the other states
nothing is a cause. With a cause, in PRESENT and with the own entry PRESENT for row k, a DE-ENERGISED output is energised for
TRIP_HOLD closes, the latch indication set and TRIP_ON recorded; without any one of these it stays DE-ENERGISED. An ENERGISED
output loses one from its hold count, and is de-energised when no cause and no hold is left; in the state that the station is
still in after the close. -/
def Obligations.OutputDecided : Prop :=
  ∀ (o : CloseOrder) (s : State) (c : Configuration) (row : Row) (v : State), s.closes c o → s.table.openRow = some row →
    s.tripDecides c o = v →
    let es := v.membership.entries
    let need := min c.confirm (es.countP (fun e => e.station != c.station && e.closing.state == .present))
    let published (r : Row) (n : Nat) (bus : Bus) : Bool := (r.content n).any (fun k => k.tripped.has bus)
    let confirming (bus : Bus) : Nat := es.countP (fun e => e.station != c.station && e.closing.state == .present &&
      (published row e.station bus || s.table.newest.any (fun r => published r e.station bus)))
    let tripZones (n : Nat) : BusSet := tripZonesIn v.replica.held n
    ∃ t, exec (.closePoint o) s = .next t ∧ t.replica = v.replica ∧ t.zones = v.zones ∧
      v.trip.effectiveConfirmation = need ∧ t.trip.effectiveConfirmation = need ∧
      (v.life.state.contributing = true →
        v.trip.confirmersA = confirming .a ∧ v.trip.confirmersB = confirming .b ∧
        (v.trip.causeZones.a = true ↔
          (tripZones c.station).a = true ∧ v.zones.a.state = .tripped ∧ need ≤ confirming .a) ∧
        (v.trip.causeZones.b = true ↔
          (tripZones c.station).b = true ∧ v.zones.b.state = .tripped ∧ need ≤ confirming .b) ∧
        (∀ n, n ∈ v.trip.bfSources ↔ n < 40 ∧ closingPresent es n = true ∧
          (row.content n).any (fun k => k.status.bf) = true ∧ ∃ bus, (tripZones n).has bus = true ∧ (tripZones c.station).has bus = true) ∧
        v.trip.bfSources.Pairwise (· < ·)) ∧
      (v.life.state.contributing = false → v.trip.causeZones = BusSet.empty ∧ v.trip.bfSources = [] ∧
        v.trip.confirmersA = 0 ∧ v.trip.confirmersB = 0) ∧
      (t.life.state.contributing = true → t.trip.causeZones = v.trip.causeZones ∧ t.trip.bfSources = v.trip.bfSources ∧
        t.trip.confirmersA = v.trip.confirmersA ∧ t.trip.confirmersB = v.trip.confirmersB) ∧
      (v.trip.energised = false → v.trip.noCause = false → v.life.state = .present →
        closingPresent v.membership.entries c.station = true → t.life.state = .present →
        t.trip.energised = true ∧ t.trip.holdCount = c.tripHold ∧ t.trip.latched = true) ∧
      (v.trip.energised = false → v.trip.noCause = false → v.life.state = .present →
        closingPresent v.membership.entries c.station = true → v.events.records.length < 64 →
        { kind := .tripOn, round := s.timer.round, subject := c.station,
          detail := [byte v.trip.causeZones.code, byte v.trip.bfSources.length, byte (v.trip.bfSources.headD 0xFF)] } ∈
            t.events.records) ∧
      (v.trip.energised = false → v.trip.noCause = false →
        v.life.state ≠ .present ∨ closingPresent v.membership.entries c.station = false →
        t.trip.energised = false ∧ t.trip.latched = v.trip.latched) ∧
      (v.trip.energised = true → t.life.state = .present → v.trip.noCause = false ∨ 2 ≤ v.trip.holdCount →
        t.trip.energised = true ∧ t.trip.holdCount = v.trip.holdCount - 1 ∧ t.trip.latched = v.trip.latched) ∧
      (v.trip.energised = true → v.trip.noCause = true → v.trip.holdCount ≤ 1 →
        t.trip.energised = false ∧ t.trip.holdCount = 0 ∧ t.trip.latched = v.trip.latched) ∧
      (v.trip.energised = false → v.trip.noCause = true → t.trip.energised = false ∧ t.trip.latched = v.trip.latched)

/-- CLOSE_POINT and BF_EXPIRED: the breaker-failure timer. The own peak is the largest of the peak history, a VALID entry giving its
largest current and an INVALID one BF_LEVEL. In JOINING and PRESENT, with a start condition (the output ENERGISED or the
initiation ACTIVE) and the own peak at BF_LEVEL, an IDLE timer starts at BF_TIME with BF_START, and a RUNNING one counts down and at
a count of 1 expires with BF_EXPIRED and sets the BF flag; without either a RUNNING one returns to IDLE. An EXPIRED one returns to
IDLE, its flag cleared with BF_CLEARED, when the own peak is below BF_LEVEL, and otherwise stays. A station that leaves JOINING and
PRESENT at the same close has timer and flag cleared. -/
def Obligations.BreakerFailureTimerSteps : Prop :=
  ∀ (o : CloseOrder) (s : State) (c : Configuration) (v : State), s.closes c o →
    (s.tripDecides c o).decideOutput c = v → v.life.state.contributing = true →
    let peak (e : PeakEntry) : Nat :=
      if e.quality = .valid then max e.currents.a.natAbs (max e.currents.b.natAbs e.currents.c.natAbs) else c.bfLevel
    let high := c.bfLevel ≤ v.trip.ownPeak
    let start := v.trip.energised = true ∨ v.acquisition.initiation.value = true
    let recorded (kind : EventKind) (detail : List Byte) (t : State) : Prop :=
      v.events.records.length < 64 →
        { kind := kind, round := s.timer.round, subject := c.station, detail := detail } ∈ t.events.records
    let stands (t : State) (timer : BfTimer) (count : Nat) (flag : Bool) : Prop :=
      t.life.state.contributing = true → t.trip.bfTimer = timer ∧ t.trip.bfCount = count ∧ t.trip.bfFlag = flag
    ∃ t, exec (.closePoint o) s = .next t ∧
      v.trip.ownPeak = (s.trip.peakHistory.map peak).foldr max 0 ∧ t.trip.ownPeak = v.trip.ownPeak ∧
      (v.trip.bfTimer = .idle → start → high → stands t .running c.bfTime v.trip.bfFlag ∧
        recorded .bfStart (byte ((if v.trip.energised then 1 else 0) + (if v.acquisition.initiation.value then 2 else 0)) ::
          bytes3 v.trip.ownPeak) t) ∧
      (v.trip.bfTimer = .idle → ¬ (start ∧ high) → stands t .idle v.trip.bfCount v.trip.bfFlag) ∧
      (v.trip.bfTimer = .running → ¬ high ∨ ¬ start → stands t .idle 0 v.trip.bfFlag) ∧
      (v.trip.bfTimer = .running → high → start → 2 ≤ v.trip.bfCount → stands t .running (v.trip.bfCount - 1) v.trip.bfFlag) ∧
      (v.trip.bfTimer = .running → high → start → v.trip.bfCount = 1 → exec (.bfExpired o) s = .next t ∧ t.trip.bfCount = 0 ∧
        stands t .expired 0 true ∧ recorded .bfExpired (bytes3 v.trip.ownPeak) t) ∧
      (v.trip.bfTimer = .expired → ¬ high → stands t .idle 0 false ∧
        recorded .bfCleared (1#8 :: bytes3 v.trip.ownPeak) t) ∧
      (v.trip.bfTimer = .expired → high → stands t .expired v.trip.bfCount v.trip.bfFlag) ∧
      (t.life.state.contributing = false → t.trip.bfTimer = .idle ∧ t.trip.bfCount = 0 ∧ t.trip.bfFlag = false)

/-- PROMOTION: in JOINING, a row without clash or conflict with a returned own CONTRIB that brings the join count to JOIN_ROUNDS moves
the station to PRESENT, its own entry with it. EXCLUSION: a third clash in a row in JOINING or PRESENT, or in JOINING a conflict
that brings the conflict count to JOIN_ROUNDS, moves the station to EXCLUDED; its own CONTRIBs leave the queues but for one in
transmission, and its output and BF timer are released. -/
def Obligations.StationPromotedOrExcluded : Prop :=
  (∀ (o : CloseOrder) (s : State) (c : Configuration) (row : Row), s.closes c o → s.table.openRow = some row →
     s.life.state = .joining → row.clash = false → row.conflict = false → (row.returnedOne || row.returnedTwo) = true →
     s.life.joinCount + 1 = c.joinRounds →
     ∃ t, exec (.promotion o) s = .next t ∧ t.life.state = .present ∧ t.life.joinCount = 0 ∧ t.life.conflictCount = 0 ∧
       (∀ e ∈ t.membership.entries, e.station = c.station → e.state = .present)) ∧
  (∀ (o : CloseOrder) (s : State) (c : Configuration) (row : Row), s.closes c o → s.table.openRow = some row →
     (s.life.state.contributing = true ∧ row.clash = true ∧ s.life.clashCount = 2 ∨
       s.life.state = .joining ∧ row.conflict = true ∧ s.life.conflictCount + 1 = c.joinRounds) →
     s.tripsWhilePresent →
     ∃ t, exec (.exclusion o) s = .next t ∧ t.life.state = .excluded ∧ t.trip.energised = false ∧ t.trip.bfFlag = false ∧
       t.trip.bfTimer = .idle ∧ t.timer.mode = s.timer.mode ∧ (∀ l, (t.lane l).queue = (s.lane l).dropOwn.queue))

/-- LINK_DOWN and LINK_UP: at a check point, an UP in-lane whose silent run reaches LINK_DOWN_ROUNDS goes DOWN, and a DOWN in-lane whose live
run reaches 2 comes UP with a line clear asked for on its partner out-lane. -/
def Obligations.LinkHealthChanges : Prop :=
  ∀ (l : Lane) (p : CheckPoint) (s : State) (c : Configuration), s.checks c p →
    ((s.lane l).up = true → (s.lane l).goodSeen = false → c.linkDownRounds ≤ (s.lane l).silentRun + 1 →
      ∃ t, exec (.linkDown l p) s = .next t ∧ (t.lane l).up = false ∧ (t.lane l).silentRun = 0 ∧ (t.lane l).liveRun = 0 ∧
        (t.lane l).goodSeen = false ∧ (t.lane l).counters = (s.lane l).counters) ∧
    ((s.lane l).up = false → (s.lane l).goodSeen = true → (s.lane l).liveRun = 1 →
      ∃ t, exec (.linkUp l p) s = .next t ∧ (t.lane l).up = true ∧ (t.lane l).liveRun = 0 ∧ (t.lane l).silentRun = 0 ∧
        (t.lane l).goodSeen = false ∧
        ((t.lane (partner l)).clearPending = true ∨ (t.lane (partner l)).transmitter = .clearing))

/-! ## Ring reception -/

/-- CONTRIB_RECEIVED: a good peer CONTRIB for the open row with its slot EMPTY, in JOINING, PRESENT or LEAVING, from a station of the
roster with the same shared checksum and not STALE, fills the slot with its decoded content, lane and lead, and its status
becomes the entry's last-known status. -/
def Obligations.ContribAccepted : Prop :=
  ∀ (l : Lane) (chars bs : List Byte) (s : State) (c : Configuration) (e : Entry) (row : Row), s.takesIn l chars bs →
    goodContribBytes bs → s.life.config = some c → s.life.state.working = true → (readContrib bs).origin ≠ c.station →
    s.entry (readContrib bs).origin = some e → s.life.checksum = some (readContrib bs).checksum →
    e.staleFor (readContrib bs).round = false → s.table.openRow = some row → row.round = (readContrib bs).round →
    row.body (readContrib bs).origin = .empty → (readContrib bs).origin < row.slots.length →
    ∃ t row' e', exec (.contribReceived l chars) s = .next t ∧ t.table.openRow = some row' ∧
      row'.body (readContrib bs).origin = .filled (readContrib bs).content (some
        { lane := l
          lead := ((readContrib bs).age : Int) + c.linkdly + 5 - s.elapsedSince (readContrib bs).round }) ∧
      (∀ n, n ≠ (readContrib bs).origin → row'.body n = row.body n) ∧
      t.entry (readContrib bs).origin = some e' ∧ e' = { e with lastKnown := some (readContrib bs).content.status } ∧
      (t.lane l).receiver = .hunt ∧ (t.lane l).goodSeen = true ∧
      (t.lane l).counters.goodFrames = bump16 (s.lane l).counters.goodFrames ∧
      t.table.newest = s.table.newest ∧ t.table.older = s.table.older ∧ t.timer = s.timer ∧ t.acquisition = s.acquisition ∧
      t.replica = s.replica ∧ t.zones = s.zones ∧ t.trip = s.trip ∧ t.life = s.life ∧ t.supply = s.supply ∧ t.link = s.link ∧
      t.events = s.events

/-- CONTRIB_RECEIVED: a good peer CONTRIB that is not accepted. Its class is decided in this order: not on the roster; refused for
another shared checksum, which makes the entry REFUSED and a PRESENT sender a conflict of the open row; STALE after a LEAVE; for
the open row a matched copy, a differing one, which makes the slot DISPUTED, or a copy after the dispute; LATE for a closed row;
and otherwise OUT_OF_WINDOW, which marks the slot and keeps the lowest-present number. Each counts, and nothing else changes
but where an OUT_OF_WINDOW arrival passes the recapture test. -/
def Obligations.ArrivalsClassed : Prop :=
  ∀ (l : Lane) (chars bs : List Byte) (s : State) (c : Configuration) (row : Row) (f : Contrib), s.takesIn l chars bs →
    goodContribBytes bs → s.life.config = some c →
    (s.life.state.working = true ∨ s.life.state = .listen ∧ s.timer.mode = .numbered) →
    readContrib bs = f → f.origin ≠ c.station → s.table.openRow = some row →
    ∃ t, exec (.contribReceived l chars) s = .next t ∧
      let others : Prop := t.timer = s.timer ∧ t.acquisition = s.acquisition ∧ t.replica = s.replica ∧ t.zones = s.zones ∧
        t.trip = s.trip ∧ t.life = s.life ∧ t.supply = s.supply ∧ t.link = s.link ∧
        ∀ n, n ≠ f.origin → t.entry n = s.entry n
      let counted (k : TableCounters) : Prop := t.table = { s.table with counters := k } ∧ t.events = s.events
      let k := s.table.counters
      (s.entry f.origin = none →
        others ∧ counted { k with offRoster := bump16 k.offRoster } ∧ t.membership = s.membership) ∧
      (∀ e, s.entry f.origin = some e →
        let stale : Prop := e.state = .left ∧ ∃ r, e.leaveRound = some r ∧
          ¬ (1 ≤ (f.round - r).toNat ∧ (f.round - r).toNat ≤ 32767)
        let closed : Prop := ∃ r, (s.table.newest = some r ∨ s.table.older = some r) ∧ r.round = f.round
        let recaptures : Prop := s.life.state = .present ∧ f.content.sender = .present ∧
          e.outOfWindowRun = c.lostRounds ∧ f.content.lowest < s.lowestPresent ∧ s.trip.energised = false ∧
          s.trip.bfTimer = .idle
        (s.life.checksum ≠ some f.checksum → others ∧
          t.table = { s.table with openRow := some (if f.content.sender = .present then { row with conflict := true } else row) } ∧
          t.entry f.origin = some (if e.state = .refused then { e with refusal := true } else
            { e with state := .refused, joinRun := 0, missRun := 0, refusal := true, leaveRound := none, leaveReason := none }) ∧
          t.events = (if e.state = .refused then s.events else s.events.offer
            { kind := .entryState, round := s.timer.round, subject := f.origin,
              detail := [byte e.state.code, byte EntryState.refused.code] })) ∧
        (s.life.checksum = some f.checksum → stale → others ∧ counted k ∧
          t.entry f.origin = some { e with stale := bump8 e.stale }) ∧
        (s.life.checksum = some f.checksum → ¬ stale → row.round = f.round →
          (∀ x i, row.body f.origin = .filled x i → x = f.content → others ∧ t.membership = s.membership ∧
            counted { k with matchedCopies := bump16 k.matchedCopies }) ∧
          (∀ x i, row.body f.origin = .filled x i → x ≠ f.content → others ∧
            t.table = { s.table with openRow := some (row.setBody f.origin .disputed) } ∧
            t.entry f.origin = some { e with disagree := bump8 e.disagree } ∧
            t.events = s.events.offer { kind := .copyDisagree, round := s.timer.round, subject := f.origin,
                                        detail := bytes2 f.round.toNat ++ [byte (laneCode l)] }) ∧
          (row.body f.origin = .disputed → others ∧ t.membership = s.membership ∧
            counted { k with afterDispute := bump16 k.afterDispute })) ∧
        (s.life.checksum = some f.checksum → ¬ stale → row.round ≠ f.round → closed → others ∧ counted k ∧
          t.entry f.origin = some { e with late := bump8 e.late }) ∧
        (s.life.checksum = some f.checksum → ¬ stale → row.round ≠ f.round → ¬ closed → ¬ recaptures → others ∧
          t.table = { s.table with openRow := some (row.setMark f.origin) } ∧ t.events = s.events ∧
          t.entry f.origin =
            some { e with outOfWindow := bump8 e.outOfWindow, latestLowest := some f.content.lowest }))

/-- CONTRIB_RECEIVED: the adoption of a peer's numbering. In LISTEN a PRESENT peer of the roster with the same shared checksum is
captured from, and no other; in PRESENT an OUT_OF_WINDOW arrival from a PRESENT peer whose out-of-window run stands at LOST_ROUNDS,
with a lower lowest-present number, causes a recapture, unless the output is ENERGISED or the BF timer not IDLE. Both take the
round, the phase and an empty next row, and void the scans; a recapture also blocks the zones, their latches kept, clears their
windows and every out-of-window run. CAPTURE and RECAPTURE are recorded. The lowest-present number is the smallest PRESENT
station, 0xFF for none. -/
def Obligations.CaptureAndRecapture : Prop :=
  (∀ (l : Lane) (chars bs : List Byte) (s : State) (c : Configuration) (f : Contrib), s.takesIn l chars bs →
    goodContribBytes bs → s.life.config = some c → readContrib bs = f → f.origin ≠ c.station →
    let phase := min (f.age + c.linkdly + 5) (c.period - 1)
    let adopted (t : State) : Prop :=
      t.timer = { s.timer with
        mode := .numbered, round := f.round, phase := phase, roundLength := c.period, pendingAdjustment := none,
        captured := true, history := [], captureMark := some (f.round, (s.now : Int) - phase) } ∧
      t.table = { s.table with openRow := some (Row.fresh (f.round + 1)), newest := none, older := none, settling := true } ∧
      t.acquisition = { s.acquisition with
        scan := s.acquisition.scan.map (fun _ => .void), pendingScan := s.acquisition.pendingScan.map (fun _ => .void) } ∧
      t.trip = s.trip ∧ t.life = s.life ∧ t.replica = s.replica ∧ t.supply = s.supply ∧ t.link = s.link
    (s.life.state = .listen → s.timer.mode ≠ .numbered →
      let test : Prop := (∃ e ∈ c.roster, e.station = f.origin) ∧ f.content.sender = .present ∧
        s.life.checksum = some f.checksum
      ∃ t, exec (.contribReceived l chars) s = .next t ∧ t.membership = s.membership ∧ t.zones = s.zones ∧
        (test → adopted t ∧ t.events = s.events.offer
          { kind := .capture, round := f.round, subject := f.origin,
            detail := bytes2 f.round.toNat ++ bytes2 phase }) ∧
        (¬ test → t.timer = s.timer ∧ t.table = s.table ∧ t.acquisition = s.acquisition ∧ t.trip = s.trip ∧
          t.life = s.life ∧ t.replica = s.replica ∧ t.events = s.events)) ∧
    (∀ (e : Entry) (row : Row), s.life.state = .present → s.entry f.origin = some e → s.life.checksum = some f.checksum →
      e.staleFor f.round = false → s.table.openRow = some row → row.round ≠ f.round →
      (∀ r, s.table.newest = some r ∨ s.table.older = some r → r.round ≠ f.round) →
      f.content.sender = .present → e.outOfWindowRun = c.lostRounds → f.content.lowest < s.lowestPresent →
      ∃ t, exec (.contribReceived l chars) s = .next t ∧
        (s.trip.energised = false → s.trip.bfTimer = .idle → adopted t ∧
          t.entry f.origin = some { e with
            outOfWindow := bump8 e.outOfWindow, latestLowest := some f.content.lowest, outOfWindowRun := 0 } ∧
          (∀ n, n ≠ f.origin → t.entry n = (s.entry n).map (fun e => { e with outOfWindowRun := 0 })) ∧
          (∀ z, (t.zones.get z).state = (if (s.zones.get z).state = .inactive then .inactive else .blocked) ∧
            (t.zones.get z).armingCount = 0 ∧ (t.zones.get z).gapCount = 0 ∧ (t.zones.get z).clearRun = 0 ∧
            (t.zones.get z).latch = (s.zones.get z).latch ∧
            ∀ p, (t.zones.get z).phases.get p = { (s.zones.get z).phases.get p with
              window := [], markHold := 0, previousHigh := false, supervisionRun := 0 }) ∧
          t.zones.merged = s.zones.merged ∧ t.zones.verdict = BusSet.empty ∧
          (s.events.records.length ≤ 60 →
            { kind := .recapture, round := f.round, subject := f.origin,
              detail := bytes2 s.timer.round.toNat ++ bytes2 f.round.toNat ++ bytes2 phase } ∈ t.events.records)) ∧
        (s.trip.energised = true ∨ s.trip.bfTimer ≠ .idle → t.timer = s.timer ∧ t.acquisition = s.acquisition ∧
          t.zones = s.zones ∧ t.table = { s.table with openRow := some (row.setMark f.origin) } ∧ t.events = s.events))) ∧
  (∀ s : State, (s.lowestPresent = 0xFF ∨
      s.lowestPresent < 40 ∧ ∃ e ∈ s.membership.entries, e.station = s.lowestPresent ∧ e.state = .present) ∧
    ∀ e ∈ s.membership.entries, e.station < 40 → e.state = .present → s.lowestPresent ≤ e.station)

/-- CONTRIB_RECEIVED: a returning own CONTRIB of the open row is stripped; equal to the own slot it sets the lane's returned flag, and
otherwise it is an identity clash that sets the row's clash flag. -/
def Obligations.OwnContribReturns : Prop :=
  ∀ (l : Lane) (chars bs : List Byte) (s : State) (c : Configuration) (row : Row), s.takesIn l chars bs → goodContribBytes bs →
    s.life.config = some c → s.life.state.working = true → (readContrib bs).origin = c.station →
    s.table.openRow = some row → row.round = (readContrib bs).round →
    ∃ t, exec (.contribReceived l chars) s = .next t ∧ (t.lane l).queue = (s.lane l).queue ∧
      (t.lane l).counters.ownStripped = bump16 (s.lane l).counters.ownStripped ∧
      (row.content c.station = some (readContrib bs).content ∧ s.life.checksum = some (readContrib bs).checksum →
        t.table.openRow = some (row.setReturned l) ∧
        t.table.counters.ownReturnsMatched = bump16 s.table.counters.ownReturnsMatched ∧ t.events = s.events) ∧
      (¬ (row.content c.station = some (readContrib bs).content ∧ s.life.checksum = some (readContrib bs).checksum) →
        t.table.openRow = some { row with clash := true } ∧
        t.table.counters.identityClashes = bump16 s.table.counters.identityClashes) ∧
      t.timer = s.timer ∧ t.acquisition = s.acquisition ∧ t.membership = s.membership ∧ t.replica = s.replica ∧
      t.zones = s.zones ∧ t.trip = s.trip ∧ t.life = s.life ∧ t.supply = s.supply ∧ t.link = s.link

/-- CONTRIB_RECEIVED and LEAVE_RECEIVED: a frame whose CRC fails is counted and dropped; a good frame of another station is forwarded
on the out-lane of its lane with its hops field one higher, unless the hop limit or a full queue stops it, which is counted; in
any case the receiver hunts again. -/
def Obligations.FramesForwardedOrDropped : Prop :=
  (∀ (i : Instr) (l : Lane) (chars bs : List Byte) (s : State),
    (i = .contribReceived l chars ∧ bs.head? = some leadContrib ∧ bs.length = 24 ∨
      i = .leaveReceived l chars ∧ bs.head? = some leadLeave ∧ bs.length = 12) →
    s.takesIn l chars bs → crcGood bs = false → exec i s = .next (s.mapLane l LaneState.reject)) ∧
  (∀ (i : Instr) (l : Lane) (chars bs : List Byte) (s : State),
    (i = .contribReceived l chars ∧ goodContribBytes bs ∨ i = .leaveReceived l chars ∧ goodLeaveBytes bs) →
    s.takesIn l chars bs → frameOrigin bs ≠ s.ownNumber →
    ∃ t, exec i s = .next t ∧ (t.lane l).receiver = .hunt ∧
      (39 ≤ frameHops bs → (t.lane l).queue = (s.lane l).queue ∧
        (t.lane l).counters.hopLimit = bump16 (s.lane l).counters.hopLimit) ∧
      (frameHops bs ≤ 38 → 8 ≤ (s.lane l).queue.length → (t.lane l).queue = (s.lane l).queue ∧
        (t.lane l).counters.queueFull = bump16 (s.lane l).counters.queueFull) ∧
      (frameHops bs ≤ 38 → (s.lane l).queue.length < 8 → (s.lane l).transmitter ≠ .idle →
        (t.lane l).queue = (s.lane l).queue ++ [{ source := .copy s.now, bytes := setHops bs (frameHops bs + 1) }] ∧
        (t.lane l).counters.forwarded = bump16 (s.lane l).counters.forwarded) ∧
      (frameHops bs ≤ 38 → (s.lane l).queue = [] → (s.lane l).transmitter = .idle → (s.lane l).clearPending = false →
        (t.lane l).transmitter = .sending ∧
        (t.lane l).queue = [⟨.copy s.now, setAge (setHops bs (frameHops bs + 1))
          (copyAge s.life.config (setHops bs (frameHops bs + 1)) 0)⟩]) ∧
      (t.lane (partner l)) = s.lane (partner l) ∧ t.replica = s.replica ∧ t.trip = s.trip ∧ t.life = s.life ∧
      t.supply = s.supply ∧ t.link = s.link)

/-- LEAVE_RECEIVED: a good LEAVE of a peer of the roster with the right check byte, not a second copy, makes its entry LEFT with its
round, reason and final bay status, the BF flag clear. -/
def Obligations.LeaveTaken : Prop :=
  ∀ (l : Lane) (chars bs : List Byte) (s : State) (e : Entry), s.takesIn l chars bs → goodLeaveBytes bs →
    (readLeave bs).origin ≠ s.ownNumber → (s.life.state.working = true ∨ s.life.state = .listen) →
    s.entry (readLeave bs).origin = some e → (readLeave bs).check = (s.life.checksum.getD 0).setWidth 8 →
    ¬ (e.state = .left ∧ e.leaveRound = some (readLeave bs).round) →
    ∃ t e', exec (.leaveReceived l chars) s = .next t ∧ t.entry (readLeave bs).origin = some e' ∧ e'.state = .left ∧
      e'.leaveRound = some (readLeave bs).round ∧ e'.leaveReason = some (readLeave bs).reason ∧ e'.joinRun = 0 ∧ e'.missRun = 0 ∧
      e'.lastKnown = some { positions := (readLeave bs).positions, bf := false } ∧
      (∀ n, n ≠ (readLeave bs).origin → t.entry n = s.entry n) ∧
      t.timer = s.timer ∧ t.acquisition = s.acquisition ∧ t.table = s.table ∧ t.replica = s.replica ∧ t.zones = s.zones ∧
      t.trip = s.trip ∧ t.life = s.life ∧ t.supply = s.supply ∧ t.link = s.link

/-- UNKNOWN_LEAD, MALFORMED_CHARACTER, RETURN_TO_HUNT, FRAMING_ERROR, TRUNCATION and LINE_CLEAR_SEEN: each changes its in-lane's receiver and its
counter as R37 to R40 say, and nothing else of the station. -/
def Obligations.ReceiverFollowsItsLine : Prop :=
  ∀ (l : Lane) (s : State), s.powered = true → s.receives = true →
    (∀ ch, (s.lane l).receiver = .hunt → frameLength ch = none →
      exec (.unknownLead l ch) s = .next (s.setLane l { s.lane l with
        counters := { (s.lane l).counters with unknownLeads := bump16 (s.lane l).counters.unknownLeads } })) ∧
    ((s.lane l).receiver = .hunt →
      exec (.malformedCharacter l) s = .next (s.setLane l { s.lane l with receiver := .waitMark false })) ∧
    (∀ b, (s.lane l).receiver = .waitMark b →
      exec (.returnToHunt l) s = .next (s.setLane l { s.lane l with receiver := .hunt })) ∧
    (∀ chars sp, s.inFrame l chars = true →
      exec (.framingError l chars sp) s = .next (s.setLane l { s.lane l with
        receiver := if sp then .hunt else .waitMark false
        counters := { (s.lane l).counters with framingErrors := bump16 (s.lane l).counters.framingErrors } })) ∧
    (∀ chars, s.inFrame l chars = true →
      exec (.truncation l chars) s = .next (s.setLane l { s.lane l with
        receiver := .hunt
        counters := { (s.lane l).counters with truncatedFrames := bump16 (s.lane l).counters.truncatedFrames } })) ∧
    (∀ chars, clearFollows (s.lane l).receiver chars = true →
      exec (.lineClearSeen l chars) s = .next (s.setLane l { s.lane l with
        receiver := .waitMark true
        counters := { (s.lane l).counters with lineClearsSeen := bump16 (s.lane l).counters.lineClearsSeen } }))

/-! ## Ring transmission and LEAVING -/

/-- TRANSMISSION_COMPLETE: the head frame leaves the queue and is counted, and the gap begins; nothing else changes unless the frame
was an own LEAVE and the station is LEAVING, when the report is counted and the second one moves the station to OUT. In HOLD the
frame is not counted, the counters being held (where R46 counts and R53 holds, the model's choice, log entry 32). -/
def Obligations.TransmissionCompletes : Prop :=
  ∀ (l : Lane) (s : State) (f : QueuedFrame) (rest : List QueuedFrame), s.powered = true → (s.lane l).transmitter = .sending →
    (s.lane l).queue = f :: rest →
    let sent := s.setLane l { s.lane l with
      queue := rest
      transmitter := .gap
      counters := { (s.lane l).counters with transmitted :=
        if s.life.state = .hold then (s.lane l).counters.transmitted else bump16 (s.lane l).counters.transmitted } }
    (f.isOwnLeave = false ∨ s.life.state ≠ .leaving → exec (.transmissionComplete l) s = .next sent) ∧
    (f.isOwnLeave = true → s.life.state = .leaving →
      ∃ t, exec (.transmissionComplete l) s = .next t ∧ t.ring = sent.ring ∧
        t.life.leaveReports = bump 2 s.life.leaveReports ∧ t.life.leaveTransmitted = bump 2 s.life.leaveTransmitted ∧
        t.life.state = (if bump 2 s.life.leaveReports = 2 then .out else .leaving) ∧
        t.timer = s.timer ∧ t.table = s.table ∧ t.replica = s.replica ∧ t.zones = s.zones ∧ t.supply = s.supply)

/-- LINE_CLEAR_END and GAP_END: a finished line clear is followed by a gap; a finished gap by a pending line clear, else by the head
frame with its age brought up to date, else by IDLE. Nothing else of the station changes. The age of a forwarded copy is the age
it came with, its residence time, LINKDLY and the line time, held at 65535, or without a configuration the residence time alone;
that of an own frame is the Round Timer's answer for its round, where that is not negative; the CRC is computed afresh and every
other byte stays. The answer is the time since the mark of the round in progress or of one of the two before it (or since the
instant standing for a captured round's mark), minus the time to the next mark for the next round, and otherwise, or outside
NUMBERED, the time since the latest mark. -/
def Obligations.TransmitterMovesOn : Prop :=
  (∀ (l : Lane) (s : State), s.powered = true →
     ((s.lane l).transmitter = .clearing →
       exec (.lineClearEnd l) s = .next (s.setLane l { s.lane l with transmitter := .gap })) ∧
     ((s.lane l).transmitter = .gap → (s.lane l).clearPending = true →
       exec (.gapEnd l) s = .next (s.setLane l { s.lane l with transmitter := .clearing, clearPending := false })) ∧
     (∀ f rest, (s.lane l).transmitter = .gap → (s.lane l).clearPending = false → (s.lane l).queue = f :: rest →
       exec (.gapEnd l) s = .next (s.setLane l { s.lane l with transmitter := .sending, queue := s.dress f :: rest })) ∧
     ((s.lane l).transmitter = .gap → (s.lane l).clearPending = false → (s.lane l).queue = [] →
       exec (.gapEnd l) s = .next (s.setLane l { s.lane l with transmitter := .idle }))) ∧
  (∀ (s : State) (f : QueuedFrame), f.whole →
    let g := s.dress f
    let answer := s.elapsedSince (frameRound f.bytes)
    let passed (arrived : Nat) : Nat := frameAge f.bytes + (s.now - arrived)
    g.source = f.source ∧ g.bytes.length = f.bytes.length ∧ crcGood g.bytes = true ∧ g.bytes.take 4 = f.bytes.take 4 ∧
    (g.bytes.drop 6).take (f.bytes.length - 8) = (f.bytes.drop 6).take (f.bytes.length - 8) ∧
    (∀ arrived c, f.source = .copy arrived → s.life.config = some c → frameAge g.bytes =
      min 65535 (passed arrived + c.linkdly + (if f.bytes.head? = some leadContrib then 5 else 3))) ∧
    (∀ arrived, f.source = .copy arrived → s.life.config = none → frameAge g.bytes = min 65535 (passed arrived)) ∧
    (f.source = .own → 0 ≤ answer → answer ≤ 65535 → (frameAge g.bytes : Int) = answer)) ∧
  (∀ s : State, s.timer.mode = .numbered →
    s.elapsedSince (s.timer.round + 1) = (s.timer.phase : Int) - s.timer.roundLength ∧
    (∀ (k : Fin 3) (i : Int), (s.timer.captureMark = some (s.timer.round - BitVec.ofNat 16 k.val, i) ∨
        (∀ j, s.timer.captureMark ≠ some (s.timer.round - BitVec.ofNat 16 k.val, j)) ∧ s.timer.history[k.val]? = some i) →
      s.elapsedSince (s.timer.round - BitVec.ofNat 16 k.val) = min 65535 ((s.now : Int) - i)) ∧
    (∀ (n : Round) (i : Int) (rest : List Int), n ≠ s.timer.round + 1 → (∀ k : Fin 3, n ≠ s.timer.round - BitVec.ofNat 16 k.val) →
      s.timer.history = i :: rest → s.elapsedSince n = min 65535 ((s.now : Int) - i))) ∧
  (∀ (s : State) (n : Round) (i : Int) (rest : List Int), s.timer.mode ≠ .numbered → s.timer.history = i :: rest →
    s.elapsedSince n = min 65535 ((s.now : Int) - i))

/-- LEAVING_END: the second LEAVE report moves the station to OUT, be it the completion of the second LEAVE's transmission or the drop of
both frames by a LEAVE request at full queues. -/
def Obligations.LeavingEnds : Prop :=
  (∀ (l : Lane) (s : State) (f : QueuedFrame) (rest : List QueuedFrame), s.powered = true → s.life.state = .leaving →
    (s.lane l).transmitter = .sending → (s.lane l).queue = f :: rest → f.isOwnLeave = true → s.life.leaveReports = 1 →
    ∃ t, exec (.leavingEnd (.transmission l)) s = .next t ∧ t.life.state = .out ∧ t.life.leaveReports = 2 ∧
      t.life.leaveTransmitted = bump 2 s.life.leaveTransmitted ∧ (t.lane l).queue = rest ∧ t.timer = s.timer ∧
      t.table = s.table ∧ t.zones = s.zones) ∧
  (∀ (chars : List Byte) (s : State), s.hears chars (requestBytes kindLeave []) → s.life.state = .joining →
    8 ≤ s.ring.one.queue.length → 8 ≤ s.ring.two.queue.length →
    ∃ t, exec (.leavingEnd (.request chars)) s = .next t ∧ t.life.state = .out ∧ t.life.leaveTransmitted = 0 ∧
      (∀ l, (t.lane l).queue = (s.lane l).queue) ∧ t.timer = s.timer ∧ t.table = s.table ∧ t.zones = s.zones)

/-! ## The maintenance line -/

/-- A break with a response in progress makes the response absent and counts it as abandoned, and the rate is lost; everything else of
the station stands as it is, the records of an EVENTS response and a station with an answered RESTART among it. While the line has
no rate and no response is in progress, no request is collected or answered and no response completes. A station that a supply LOW
sends to HOLD keeps its link as it is, a response in progress with it, and in HOLD every request is answered. -/
def Obligations.BreakAbandons : Prop :=
  (∀ (s : State), s.powered = true →
    ∃ t, exec .mlBreak s = .next t ∧ t = { s with link := t.link } ∧ t.link =
      { rate := none
        awaitingMatch := true
        receiver := .idle
        response := none
        counters := { s.link.counters with
          abandonedResponses :=
            if s.link.response.isSome then bump16 s.link.counters.abandonedResponses
            else s.link.counters.abandonedResponses } }) ∧
  (∀ (s : State) (chars : List Byte) (straps : Straps) (i : Instr), s.link.rate = none → s.link.response = none →
    i ∈ (requestCommands chars).map Prod.snd ++
      [Instr.unknownKind chars, .requestCrcError chars, .responseComplete straps] → exec i s = .next s) ∧
  (∀ (s t : State) (mv : Nat), exec (.supplyLow mv) s = .next t → t.link = s.link) ∧
  (∀ (s : State) (chars p : List Byte) (k : Byte) (i : Instr), (k, i) ∈ requestCommands chars → p.length ≤ 250 →
    s.hears chars (requestBytes k p) → s.life.state = .hold →
    ∃ t r, exec i s = .next t ∧ t.link.response = some r ∧ r.bytes.head? = some (k + 0x80#8) ∧ r.sent = 0) ∧
  (∀ (s : State) (chars : List Byte), s.hears chars (requestBytes kindStatus []) → s.life.state = .hold →
    exec (.status chars) s = .next (s.answered (kindStatus + 0x80#8) .done (statusReport s) .nothing))

/-- RATE_MATCH: after a break, a character 0x55 whose measured bit time lies within 3% of a listed rate's sets that rate, and any other
leaves the rate absent until the next break. -/
def Obligations.RateMatches : Prop :=
  ∀ (interval : Nat) (sampled : Option Byte) (s : State), s.powered = true → s.link.awaitingMatch = true →
    (∀ r ∈ listedRates, r.within3 interval = true → sampled = some 0x55#8 →
      exec (.rateMatch interval sampled) s = .next { s with link :=
        { s.link with rate := some r, awaitingMatch := false, receiver := .idle } }) ∧
    ((∀ r ∈ listedRates, r.within3 interval = false) ∨ sampled ≠ some 0x55#8 →
      exec (.rateMatch interval sampled) s = .next { s with link := { s.link with awaitingMatch := false } })

/-- ML_FRAMING_ERROR, LENGTH_ERROR, REQUEST_TRUNCATED and SKIPPING_END: each changes the link's receiver and its counter as the table of R176
says, and nothing else of the station. -/
def Obligations.LinkReceiverFollowsItsLine : Prop :=
  ∀ (s : State), s.powered = true →
    (∀ chars bs, s.linkGathered chars = some bs → bs = [] ∨ openRequest bs = true →
      exec (.mlFramingError chars) s = .next { s with link := { s.link with
        receiver := .skipping
        counters := { s.link.counters with framingErrors := bump16 s.link.counters.framingErrors } } }) ∧
    (∀ chars k n, s.linkGathered chars = some [k, n] → 250 < n.toNat →
      exec (.lengthError chars) s = .next { s with link := { s.link with
        receiver := .skipping
        counters := { s.link.counters with lengthErrors := bump16 s.link.counters.lengthErrors } } }) ∧
    (∀ chars bs, s.linkGathered chars = some bs → openRequest bs = true →
      exec (.requestTruncated chars) s = .next { s with link := { s.link with
        receiver := .idle
        counters := { s.link.counters with truncatedRequests := bump16 s.link.counters.truncatedRequests } } }) ∧
    (s.link.receiver = .skipping →
      exec .skippingEnd s = .next { s with link := { s.link with receiver := .idle } })

/-- STATUS, ROUND and MEMBERS: in every station state each is answered DONE with its report of the station as it stands, and changes
nothing but the link; the reports are 127, 176 and 240 bytes long. -/
def Obligations.ReportsAnswered : Prop :=
  (∀ (chars : List Byte) (s : State), s.hears chars (requestBytes kindStatus []) →
    exec (.status chars) s = .next (s.answered (kindStatus + 0x80#8) .done (statusReport s) .nothing)) ∧
  (∀ (chars : List Byte) (s : State), s.hears chars (requestBytes kindRound []) →
    exec (.round chars) s = .next (s.answered (kindRound + 0x80#8) .done (roundReport s) .nothing)) ∧
  (∀ (chars : List Byte) (s : State), s.hears chars (requestBytes kindMembers []) →
    exec (.members chars) s = .next (s.answered (kindMembers + 0x80#8) .done (membersReport s) .nothing)) ∧
  (∀ s : State, (statusReport s).length = 127 ∧ (roundReport s).length = 176 ∧ (membersReport s).length = 240)

/-- EVENTS with n in 1..16: the answer carries the m oldest records, m the smaller of n and the records held, and the list is
unchanged until RESPONSE_COMPLETE removes those m from its head. -/
def Obligations.EventsReadAndRemoved : Prop :=
  (∀ (chars : List Byte) (n : Byte) (s : State), s.hears chars (requestBytes kindEvents [n]) → 1 ≤ n.toNat → n.toNat ≤ 16 →
    let m := min n.toNat s.events.records.length
    exec (.events chars) s = .next (s.answered (kindEvents + 0x80#8) .done
      (byte m :: (s.events.records.take m).flatMap EventRecord.bytes) (.removeRecords m))) ∧
  (∀ (straps : Straps) (r : Response) (m : Nat) (s : State), s.powered = true → s.link.response = some r →
    r.onComplete = .removeRecords m → exec (.responseComplete straps) s = .next
      { s with link := { s.link with response := none }, events := { s.events with records := s.events.records.drop m } }) ∧
  (∀ (straps : Straps) (r : Response) (s : State), s.powered = true → s.link.response = some r → r.onComplete = .nothing →
    exec (.responseComplete straps) s = .next { s with link := { s.link with response := none } })

/-- UNKNOWN_KIND, REQUEST_CRC_ERROR, overruns and MALFORMED payloads: an unknown kind is answered 0xFF MALFORMED; a payload of the wrong
length for its request, of every kind, or with a count or zone set out of range is answered MALFORMED; a bad CRC is counted and
not answered, and so is any request, good or bad, whose reception completes during a response, as an overrun; nothing but the
link changes. -/
def Obligations.UnfitRequests : Prop :=
  (∀ (chars : List Byte) (k : Byte) (p : List Byte) (s : State), p.length ≤ 250 → s.hears chars (requestBytes k p) →
    knownKind k = false → exec (.unknownKind chars) s = .next (s.answered 0xFF#8 .malformed [] .nothing)) ∧
  (∀ (chars bs : List Byte) (s : State), s.hears chars bs → wholeRequest bs = true → crcGood bs = false →
    exec (.requestCrcError chars) s = .next { s with link := { s.link with
      receiver := .idle, counters := { s.link.counters with crcErrors := bump16 s.link.counters.crcErrors } } }) ∧
  (∀ (chars p : List Byte) (k : Byte) (i : Instr) (s : State) (r : Response), p.length ≤ 250 → s.powered = true →
    s.link.response = some r →
    ((k, i) ∈ requestCommands chars ∨ knownKind k = false ∧ i = .unknownKind chars) →
    s.linkGathered chars = some (requestBytes k p) →
    exec i s = .next { s with link := { s.link with
      receiver := .idle, counters := { s.link.counters with overruns := bump16 s.link.counters.overruns } } }) ∧
  (∀ (chars bs : List Byte) (s : State) (r : Response), s.powered = true → s.link.response = some r →
    s.linkGathered chars = some bs → wholeRequest bs = true → crcGood bs = false →
    exec (.requestCrcError chars) s = .next { s with link := { s.link with
      receiver := .idle, counters := { s.link.counters with overruns := bump16 s.link.counters.overruns } } }) ∧
  (∀ (chars p : List Byte) (k : Byte) (i : Instr) (s : State), p.length ≤ 250 → s.hears chars (requestBytes k p) →
    (k, i) ∈ requestCommands chars → p.length ≠ (if k = kindEvents ∨ k = kindRelease then 1 else 0) →
    exec i s = .next (s.answered (k + 0x80#8) .malformed [] .nothing)) ∧
  (∀ (chars : List Byte) (n : Byte) (s : State), s.hears chars (requestBytes kindEvents [n]) → n.toNat = 0 ∨ 16 < n.toNat →
    exec (.events chars) s = .next (s.answered (kindEvents + 0x80#8) .malformed [] .nothing)) ∧
  (∀ (chars : List Byte) (v : Byte) (s : State), s.hears chars (requestBytes kindRelease [v]) → v.toNat = 0 ∨ 7 < v.toNat →
    exec (.release chars) s = .next (s.answered (kindRelease + 0x80#8) .malformed [] .nothing))

/-- ACK_TRIP: with the output DE-ENERGISED it clears the latch indication and is DONE, whatever the station state; with the output
ENERGISED it is refused and the indication stays. Nothing else but the link changes. -/
def Obligations.TripAcknowledged : Prop :=
  ∀ (chars : List Byte) (s : State), s.hears chars (requestBytes kindAckTrip []) →
    (s.trip.energised = false → exec (.ackTrip chars) s = .next
      (({ s with trip := { s.trip with latched := false } } : State).answered (kindAckTrip + 0x80#8) .done [] .nothing)) ∧
    (s.trip.energised = true → exec (.ackTrip chars) s = .next
      (s.answered (kindAckTrip + 0x80#8) .refusedCondition [] .nothing))

/-- RELEASE of a set of zones: in PRESENT, with every named zone latched and quiet in all three phases, the named zones join the
pending release set and the answer is DONE; otherwise the first zone that fails, in the order A, B, CZ, is named; outside
PRESENT the state refuses it. Nothing else but the link changes. After a recapture no closed row stands, and RELEASE is then
judged on the O that the zone records still hold (the model's choice, log entry 26). -/
def Obligations.ReleaseJudged : Prop :=
  ∀ (chars : List Byte) (v : Byte) (s : State) (c : Configuration), s.hears chars (requestBytes kindRelease [v]) →
    1 ≤ v.toNat → v.toNat ≤ 7 → s.life.config = some c →
    let named := zoneSetOf v.toNat
    let fits (z : Zone) : Prop := (s.zones.get z).latch = true ∧
      ∀ p, ∃ o, ((s.zones.get z).phases.get p).operate = some o ∧ o < c.supLevel
    (s.life.state = .present → (∀ z, named.has z = true → fits z) → exec (.release chars) s = .next
      (({ s with life := { s.life with pendingRelease := s.life.pendingRelease.union named } } : State).answered
        (kindRelease + 0x80#8) .done [] .nothing)) ∧
    (∀ z, s.life.state = .present → named.has z = true → ¬ fits z →
      (∀ y, zoneCode y < zoneCode z → named.has y = true → fits y) → exec (.release chars) s = .next
        (s.answered (kindRelease + 0x80#8) .refusedCondition [byte (zoneCode z)] .nothing)) ∧
    (s.life.state ≠ .present → exec (.release chars) s = .next
      (s.answered (kindRelease + 0x80#8) .refusedState [] .nothing))

/-- LEAVE: accepted in JOINING, and in PRESENT with the output DE-ENERGISED, the BF timer IDLE and its flag clear; the station is then in
LEAVING with the LEAVE recorded and queued on both out-lanes that have room. In PRESENT it is otherwise refused with TRIP_ACTIVE, and in any
other state by the state, nothing but the link changing. -/
def Obligations.LeaveJudged : Prop :=
  ∀ (chars : List Byte) (s : State), s.hears chars (requestBytes kindLeave []) →
    (s.life.state = .joining ∨
        s.life.state = .present ∧ s.trip.energised = false ∧ s.trip.bfTimer = .idle ∧ s.trip.bfFlag = false →
      s.ring.one.queue.length < 8 → s.ring.two.queue.length < 8 →
      ∃ t, exec (.leave chars) s = .next t ∧ t.life.state = .leaving ∧
        t.life.leaveRecord = some { round := s.timer.round, reason := 1#8, positions := s.acquisition.positions } ∧
        t.life.leaveReports = 0 ∧ t.life.leaveTransmitted = 0 ∧ t.life.joinCount = 0 ∧ t.life.conflictCount = 0 ∧
        t.life.clashCount = 0 ∧ t.trip.bfTimer = .idle ∧ t.trip.bfFlag = false ∧
        (∀ l, (t.lane l).queue.length = (s.lane l).queue.length + 1 ∧
          ∃ f ∈ (t.lane l).queue, f.isOwnLeave = true ∧ f.bytes.getD 7 0 = leaveCommanded) ∧
        (∃ r, t.link.response = some r ∧ r.bytes = responseBytes (kindLeave + 0x80#8) .done []) ∧
        t.timer = s.timer ∧ t.acquisition = s.acquisition ∧ t.table = s.table ∧ t.replica = s.replica ∧ t.zones = s.zones ∧
        t.supply = s.supply) ∧
    (s.life.state = .present → s.trip.energised = true ∨ s.trip.bfTimer ≠ .idle ∨ s.trip.bfFlag = true →
      exec (.leave chars) s = .next (s.answered (kindLeave + 0x80#8) .refusedCondition [1#8] .nothing)) ∧
    (s.life.state.contributing = false →
      exec (.leave chars) s = .next (s.answered (kindLeave + 0x80#8) .refusedState [] .nothing))

/-- RESTART is refused with the output ENERGISED and accepted with it DE-ENERGISED, whatever else the station holds; the accepted
restart takes effect when its response is complete, whatever the Trip Unit then holds, in HOLD too (R170; R32 differs: the model's
choice, log entry 33), and resets every block to the values of State.reset, a round length and effective counts of 0 among them
(the model's choice, log entry 7). -/
def Obligations.RestartJudged : Prop :=
  (∀ (chars : List Byte) (s : State), s.hears chars (requestBytes kindRestart []) →
    (s.trip.energised = true → exec (.restart chars) s = .next
      (s.answered (kindRestart + 0x80#8) .refusedCondition [] .nothing)) ∧
    (s.trip.energised = false → exec (.restart chars) s = .next (s.answered (kindRestart + 0x80#8) .done [] .restart))) ∧
  (∀ (straps : Straps) (r : Response) (s : State), s.powered = true → s.link.response = some r → r.onComplete = .restart →
    exec (.responseComplete straps) s = .next
      { State.reset with
        pending := s.pending
        now := s.now
        freeIndex := s.freeIndex
        life := LifeCycle.initial .commandedRestart straps.toNat
        events := s.events.offer { kind := .reset, round := 0, subject := straps.toNat, detail := [3#8] } })

/-! ## What every step keeps -/

/-- No out-lane queue ever holds more than 8 frames, and every queued frame is a whole CONTRIB or LEAVE. -/
def Obligations.QueuesStayBounded : Prop :=
  ∀ s t : State, s.queuesBounded → s.queuesWhole → step s = .next t → t.queuesBounded ∧ t.queuesWhole

/-- The Event List never holds more than 64 records, and its lost count stops at 65535. -/
def Obligations.EventListStaysBounded : Prop := ∀ s t : State, s.eventsBounded → step s = .next t → t.eventsBounded

/-- The output is energised in PRESENT alone; the BF flag is set exactly while the timer is EXPIRED, and the timer leaves IDLE in
JOINING and PRESENT alone. -/
def Obligations.TripUnitStaysConsistent : Prop :=
  ∀ s t : State, s.tripsWhilePresent → s.bfFollowsTimer → step s = .next t → t.tripsWhilePresent ∧ t.bfFollowsTimer

/-- The timer's mode and the configuration follow the station state, and in NUMBERED exactly one row is open, that of the round in
progress or of the next. -/
def Obligations.ModeAndRowFollow : Prop :=
  ∀ s t : State, s.modeFollows → s.oneRowOpen → step s = .next t → t.modeFollows ∧ t.oneRowOpen

/-- CZ never trips, the verdict is the set of TRIPPED busbar zones, and in MERGED mode B's record equals A's. -/
def Obligations.ZonesStayConsistent : Prop := ∀ s t : State, s.zonesAgree → step s = .next t → t.zonesAgree

/-- The own entry follows the station state, and the windows and the peak history hold at most W items. -/
def Obligations.EntryAndWindowsFollow : Prop :=
  ∀ s t : State, s.modeFollows → s.ownEntryFollows → s.windowsBounded → step s = .next t → t.ownEntryFollows ∧ t.windowsBounded

/-- Every one of these invariants holds of the station right after reset. -/
def Obligations.ResetIsSound : Prop := State.reset.Sound
end

