-- ==== Sys2Proof/Laws/State.lean ====
section
/-! SUPPORT. What the named updates of State leave alone, one lemma for each field and update, all true by rfl. -/

namespace Sys2Proof.Machine

/-! ## Time passing -/

section
variable (s : State) (d : Nat)
@[simp] theorem State.elapse_pending : (s.elapse d).pending = s.pending := rfl
@[simp] theorem State.elapse_powered : (s.elapse d).powered = s.powered := rfl
@[simp] theorem State.elapse_acquisition : (s.elapse d).acquisition = s.acquisition := rfl
@[simp] theorem State.elapse_ring : (s.elapse d).ring = s.ring := rfl
@[simp] theorem State.elapse_table : (s.elapse d).table = s.table := rfl
@[simp] theorem State.elapse_membership : (s.elapse d).membership = s.membership := rfl
@[simp] theorem State.elapse_replica : (s.elapse d).replica = s.replica := rfl
@[simp] theorem State.elapse_zones : (s.elapse d).zones = s.zones := rfl
@[simp] theorem State.elapse_trip : (s.elapse d).trip = s.trip := rfl
@[simp] theorem State.elapse_life : (s.elapse d).life = s.life := rfl
@[simp] theorem State.elapse_supply : (s.elapse d).supply = s.supply := rfl
@[simp] theorem State.elapse_events : (s.elapse d).events = s.events := rfl
@[simp] theorem State.elapse_freeIndex : (s.elapse d).freeIndex = s.freeIndex := rfl
@[simp] theorem State.elapse_now : (s.elapse d).now = s.now + d := rfl
end

/-! ## A lane set -/

section
variable (s : State) (l : Lane) (x : LaneState)
@[simp] theorem State.setLane_pending : (s.setLane l x).pending = s.pending := rfl
@[simp] theorem State.setLane_powered : (s.setLane l x).powered = s.powered := rfl
@[simp] theorem State.setLane_now : (s.setLane l x).now = s.now := rfl
@[simp] theorem State.setLane_timer : (s.setLane l x).timer = s.timer := rfl
@[simp] theorem State.setLane_acquisition : (s.setLane l x).acquisition = s.acquisition := rfl
@[simp] theorem State.setLane_table : (s.setLane l x).table = s.table := rfl
@[simp] theorem State.setLane_membership : (s.setLane l x).membership = s.membership := rfl
@[simp] theorem State.setLane_replica : (s.setLane l x).replica = s.replica := rfl
@[simp] theorem State.setLane_zones : (s.setLane l x).zones = s.zones := rfl
@[simp] theorem State.setLane_trip : (s.setLane l x).trip = s.trip := rfl
@[simp] theorem State.setLane_life : (s.setLane l x).life = s.life := rfl
@[simp] theorem State.setLane_supply : (s.setLane l x).supply = s.supply := rfl
@[simp] theorem State.setLane_link : (s.setLane l x).link = s.link := rfl
@[simp] theorem State.setLane_events : (s.setLane l x).events = s.events := rfl
@[simp] theorem State.setLane_freeIndex : (s.setLane l x).freeIndex = s.freeIndex := rfl
end

/-! ## A lane changed -/

section
variable (s : State) (l : Lane) (f : LaneState → LaneState)
@[simp] theorem State.mapLane_pending : (s.mapLane l f).pending = s.pending := rfl
@[simp] theorem State.mapLane_powered : (s.mapLane l f).powered = s.powered := rfl
@[simp] theorem State.mapLane_now : (s.mapLane l f).now = s.now := rfl
@[simp] theorem State.mapLane_timer : (s.mapLane l f).timer = s.timer := rfl
@[simp] theorem State.mapLane_acquisition : (s.mapLane l f).acquisition = s.acquisition := rfl
@[simp] theorem State.mapLane_table : (s.mapLane l f).table = s.table := rfl
@[simp] theorem State.mapLane_membership : (s.mapLane l f).membership = s.membership := rfl
@[simp] theorem State.mapLane_replica : (s.mapLane l f).replica = s.replica := rfl
@[simp] theorem State.mapLane_zones : (s.mapLane l f).zones = s.zones := rfl
@[simp] theorem State.mapLane_trip : (s.mapLane l f).trip = s.trip := rfl
@[simp] theorem State.mapLane_life : (s.mapLane l f).life = s.life := rfl
@[simp] theorem State.mapLane_supply : (s.mapLane l f).supply = s.supply := rfl
@[simp] theorem State.mapLane_link : (s.mapLane l f).link = s.link := rfl
@[simp] theorem State.mapLane_events : (s.mapLane l f).events = s.events := rfl
@[simp] theorem State.mapLane_freeIndex : (s.mapLane l f).freeIndex = s.freeIndex := rfl
end

/-! ## An entry changed -/

section
variable (s : State) (n : Nat) (f : Entry → Entry)
@[simp] theorem State.mapEntry_pending : (s.mapEntry n f).pending = s.pending := rfl
@[simp] theorem State.mapEntry_powered : (s.mapEntry n f).powered = s.powered := rfl
@[simp] theorem State.mapEntry_now : (s.mapEntry n f).now = s.now := rfl
@[simp] theorem State.mapEntry_timer : (s.mapEntry n f).timer = s.timer := rfl
@[simp] theorem State.mapEntry_acquisition : (s.mapEntry n f).acquisition = s.acquisition := rfl
@[simp] theorem State.mapEntry_ring : (s.mapEntry n f).ring = s.ring := rfl
@[simp] theorem State.mapEntry_table : (s.mapEntry n f).table = s.table := rfl
@[simp] theorem State.mapEntry_replica : (s.mapEntry n f).replica = s.replica := rfl
@[simp] theorem State.mapEntry_zones : (s.mapEntry n f).zones = s.zones := rfl
@[simp] theorem State.mapEntry_trip : (s.mapEntry n f).trip = s.trip := rfl
@[simp] theorem State.mapEntry_life : (s.mapEntry n f).life = s.life := rfl
@[simp] theorem State.mapEntry_supply : (s.mapEntry n f).supply = s.supply := rfl
@[simp] theorem State.mapEntry_link : (s.mapEntry n f).link = s.link := rfl
@[simp] theorem State.mapEntry_events : (s.mapEntry n f).events = s.events := rfl
@[simp] theorem State.mapEntry_freeIndex : (s.mapEntry n f).freeIndex = s.freeIndex := rfl
@[simp] theorem State.mapEntry_entries : (s.mapEntry n f).membership.entries = s.membership.entries.map (fun e => if e.station == n then f e else e) := rfl
@[simp] theorem State.mapEntry_discarded : (s.mapEntry n f).membership.discardedLeaves = s.membership.discardedLeaves := rfl
end

/-! ## A record offered -/

section
variable (s : State) (d : Draft)
@[simp] theorem State.offer_pending : (s.offer d).pending = s.pending := rfl
@[simp] theorem State.offer_powered : (s.offer d).powered = s.powered := rfl
@[simp] theorem State.offer_now : (s.offer d).now = s.now := rfl
@[simp] theorem State.offer_timer : (s.offer d).timer = s.timer := rfl
@[simp] theorem State.offer_acquisition : (s.offer d).acquisition = s.acquisition := rfl
@[simp] theorem State.offer_ring : (s.offer d).ring = s.ring := rfl
@[simp] theorem State.offer_table : (s.offer d).table = s.table := rfl
@[simp] theorem State.offer_membership : (s.offer d).membership = s.membership := rfl
@[simp] theorem State.offer_replica : (s.offer d).replica = s.replica := rfl
@[simp] theorem State.offer_zones : (s.offer d).zones = s.zones := rfl
@[simp] theorem State.offer_trip : (s.offer d).trip = s.trip := rfl
@[simp] theorem State.offer_life : (s.offer d).life = s.life := rfl
@[simp] theorem State.offer_supply : (s.offer d).supply = s.supply := rfl
@[simp] theorem State.offer_link : (s.offer d).link = s.link := rfl
@[simp] theorem State.offer_freeIndex : (s.offer d).freeIndex = s.freeIndex := rfl
@[simp] theorem State.offer_events : (s.offer d).events = s.events.offer { kind := d.kind, round := s.timer.round, subject := d.subject, detail := d.detail } := rfl
end

/-! ## A table counter changed -/

section
variable (s : State) (f : TableCounters → TableCounters)
@[simp] theorem State.countTable_pending : (s.countTable f).pending = s.pending := rfl
@[simp] theorem State.countTable_powered : (s.countTable f).powered = s.powered := rfl
@[simp] theorem State.countTable_now : (s.countTable f).now = s.now := rfl
@[simp] theorem State.countTable_timer : (s.countTable f).timer = s.timer := rfl
@[simp] theorem State.countTable_acquisition : (s.countTable f).acquisition = s.acquisition := rfl
@[simp] theorem State.countTable_ring : (s.countTable f).ring = s.ring := rfl
@[simp] theorem State.countTable_membership : (s.countTable f).membership = s.membership := rfl
@[simp] theorem State.countTable_replica : (s.countTable f).replica = s.replica := rfl
@[simp] theorem State.countTable_zones : (s.countTable f).zones = s.zones := rfl
@[simp] theorem State.countTable_trip : (s.countTable f).trip = s.trip := rfl
@[simp] theorem State.countTable_life : (s.countTable f).life = s.life := rfl
@[simp] theorem State.countTable_supply : (s.countTable f).supply = s.supply := rfl
@[simp] theorem State.countTable_link : (s.countTable f).link = s.link := rfl
@[simp] theorem State.countTable_events : (s.countTable f).events = s.events := rfl
@[simp] theorem State.countTable_freeIndex : (s.countTable f).freeIndex = s.freeIndex := rfl
@[simp] theorem State.countTable_open : (s.countTable f).table.openRow = s.table.openRow := rfl
@[simp] theorem State.countTable_newest : (s.countTable f).table.newest = s.table.newest := rfl
@[simp] theorem State.countTable_older : (s.countTable f).table.older = s.table.older := rfl
end

/-! ## The open row changed -/

section
variable (s : State) (f : Row → Row)
@[simp] theorem State.mapOpen_pending : (s.mapOpen f).pending = s.pending := rfl
@[simp] theorem State.mapOpen_powered : (s.mapOpen f).powered = s.powered := rfl
@[simp] theorem State.mapOpen_now : (s.mapOpen f).now = s.now := rfl
@[simp] theorem State.mapOpen_timer : (s.mapOpen f).timer = s.timer := rfl
@[simp] theorem State.mapOpen_acquisition : (s.mapOpen f).acquisition = s.acquisition := rfl
@[simp] theorem State.mapOpen_ring : (s.mapOpen f).ring = s.ring := rfl
@[simp] theorem State.mapOpen_membership : (s.mapOpen f).membership = s.membership := rfl
@[simp] theorem State.mapOpen_replica : (s.mapOpen f).replica = s.replica := rfl
@[simp] theorem State.mapOpen_zones : (s.mapOpen f).zones = s.zones := rfl
@[simp] theorem State.mapOpen_trip : (s.mapOpen f).trip = s.trip := rfl
@[simp] theorem State.mapOpen_life : (s.mapOpen f).life = s.life := rfl
@[simp] theorem State.mapOpen_supply : (s.mapOpen f).supply = s.supply := rfl
@[simp] theorem State.mapOpen_link : (s.mapOpen f).link = s.link := rfl
@[simp] theorem State.mapOpen_events : (s.mapOpen f).events = s.events := rfl
@[simp] theorem State.mapOpen_freeIndex : (s.mapOpen f).freeIndex = s.freeIndex := rfl
@[simp] theorem State.mapOpen_open : (s.mapOpen f).table.openRow = s.table.openRow.map f := rfl
@[simp] theorem State.mapOpen_newest : (s.mapOpen f).table.newest = s.table.newest := rfl
@[simp] theorem State.mapOpen_older : (s.mapOpen f).table.older = s.table.older := rfl
end

/-! ## The link's receiver set -/

section
variable (s : State) (r : LinkReceiver)
@[simp] theorem State.setReceiver_pending : (s.setReceiver r).pending = s.pending := rfl
@[simp] theorem State.setReceiver_powered : (s.setReceiver r).powered = s.powered := rfl
@[simp] theorem State.setReceiver_now : (s.setReceiver r).now = s.now := rfl
@[simp] theorem State.setReceiver_timer : (s.setReceiver r).timer = s.timer := rfl
@[simp] theorem State.setReceiver_acquisition : (s.setReceiver r).acquisition = s.acquisition := rfl
@[simp] theorem State.setReceiver_ring : (s.setReceiver r).ring = s.ring := rfl
@[simp] theorem State.setReceiver_table : (s.setReceiver r).table = s.table := rfl
@[simp] theorem State.setReceiver_membership : (s.setReceiver r).membership = s.membership := rfl
@[simp] theorem State.setReceiver_replica : (s.setReceiver r).replica = s.replica := rfl
@[simp] theorem State.setReceiver_zones : (s.setReceiver r).zones = s.zones := rfl
@[simp] theorem State.setReceiver_trip : (s.setReceiver r).trip = s.trip := rfl
@[simp] theorem State.setReceiver_life : (s.setReceiver r).life = s.life := rfl
@[simp] theorem State.setReceiver_supply : (s.setReceiver r).supply = s.supply := rfl
@[simp] theorem State.setReceiver_events : (s.setReceiver r).events = s.events := rfl
@[simp] theorem State.setReceiver_freeIndex : (s.setReceiver r).freeIndex = s.freeIndex := rfl
@[simp] theorem State.setReceiver_link : (s.setReceiver r).link = { s.link with receiver := r } := rfl
end

/-! ## A link counter changed -/

section
variable (s : State) (f : LinkCounters → LinkCounters)
@[simp] theorem State.countLink_pending : (s.countLink f).pending = s.pending := rfl
@[simp] theorem State.countLink_powered : (s.countLink f).powered = s.powered := rfl
@[simp] theorem State.countLink_now : (s.countLink f).now = s.now := rfl
@[simp] theorem State.countLink_timer : (s.countLink f).timer = s.timer := rfl
@[simp] theorem State.countLink_acquisition : (s.countLink f).acquisition = s.acquisition := rfl
@[simp] theorem State.countLink_ring : (s.countLink f).ring = s.ring := rfl
@[simp] theorem State.countLink_table : (s.countLink f).table = s.table := rfl
@[simp] theorem State.countLink_membership : (s.countLink f).membership = s.membership := rfl
@[simp] theorem State.countLink_replica : (s.countLink f).replica = s.replica := rfl
@[simp] theorem State.countLink_zones : (s.countLink f).zones = s.zones := rfl
@[simp] theorem State.countLink_trip : (s.countLink f).trip = s.trip := rfl
@[simp] theorem State.countLink_life : (s.countLink f).life = s.life := rfl
@[simp] theorem State.countLink_supply : (s.countLink f).supply = s.supply := rfl
@[simp] theorem State.countLink_events : (s.countLink f).events = s.events := rfl
@[simp] theorem State.countLink_freeIndex : (s.countLink f).freeIndex = s.freeIndex := rfl
@[simp] theorem State.countLink_link : (s.countLink f).link = { s.link with counters := f s.link.counters } := rfl
end

/-! ## A response built -/

section
variable (s : State) (k : Byte) (st : ReplyStatus) (more : List Byte) (x : OnComplete)
@[simp] theorem State.respond_pending : (s.respond k st more x).pending = s.pending := rfl
@[simp] theorem State.respond_powered : (s.respond k st more x).powered = s.powered := rfl
@[simp] theorem State.respond_now : (s.respond k st more x).now = s.now := rfl
@[simp] theorem State.respond_timer : (s.respond k st more x).timer = s.timer := rfl
@[simp] theorem State.respond_acquisition : (s.respond k st more x).acquisition = s.acquisition := rfl
@[simp] theorem State.respond_ring : (s.respond k st more x).ring = s.ring := rfl
@[simp] theorem State.respond_table : (s.respond k st more x).table = s.table := rfl
@[simp] theorem State.respond_membership : (s.respond k st more x).membership = s.membership := rfl
@[simp] theorem State.respond_replica : (s.respond k st more x).replica = s.replica := rfl
@[simp] theorem State.respond_zones : (s.respond k st more x).zones = s.zones := rfl
@[simp] theorem State.respond_trip : (s.respond k st more x).trip = s.trip := rfl
@[simp] theorem State.respond_life : (s.respond k st more x).life = s.life := rfl
@[simp] theorem State.respond_supply : (s.respond k st more x).supply = s.supply := rfl
@[simp] theorem State.respond_events : (s.respond k st more x).events = s.events := rfl
@[simp] theorem State.respond_freeIndex : (s.respond k st more x).freeIndex = s.freeIndex := rfl
@[simp] theorem State.respond_link : (s.respond k st more x).link = { s.link with response := some { bytes := responseBytes k st more, sent := 0, builtAt := s.now, onComplete := x } } := rfl
end

/-! ## A response to a known request built -/

section
variable (s : State) (k : Byte) (st : ReplyStatus) (more : List Byte)
@[simp] theorem State.reply_pending : (s.reply k st more).pending = s.pending := rfl
@[simp] theorem State.reply_powered : (s.reply k st more).powered = s.powered := rfl
@[simp] theorem State.reply_now : (s.reply k st more).now = s.now := rfl
@[simp] theorem State.reply_timer : (s.reply k st more).timer = s.timer := rfl
@[simp] theorem State.reply_acquisition : (s.reply k st more).acquisition = s.acquisition := rfl
@[simp] theorem State.reply_ring : (s.reply k st more).ring = s.ring := rfl
@[simp] theorem State.reply_table : (s.reply k st more).table = s.table := rfl
@[simp] theorem State.reply_membership : (s.reply k st more).membership = s.membership := rfl
@[simp] theorem State.reply_replica : (s.reply k st more).replica = s.replica := rfl
@[simp] theorem State.reply_zones : (s.reply k st more).zones = s.zones := rfl
@[simp] theorem State.reply_trip : (s.reply k st more).trip = s.trip := rfl
@[simp] theorem State.reply_life : (s.reply k st more).life = s.life := rfl
@[simp] theorem State.reply_supply : (s.reply k st more).supply = s.supply := rfl
@[simp] theorem State.reply_events : (s.reply k st more).events = s.events := rfl
@[simp] theorem State.reply_freeIndex : (s.reply k st more).freeIndex = s.freeIndex := rfl
end

/-! ## Lanes -/

@[simp] theorem Ring.lane_setLane_same (r : Ring) (l : Lane) (x : LaneState) : (r.setLane l x).lane l = x := by cases l <;> rfl

theorem Ring.lane_setLane (r : Ring) (l m : Lane) (x : LaneState) : (r.setLane l x).lane m = if m = l then x else r.lane m := by
  cases l <;> cases m <;> rfl

@[simp] theorem State.lane_setLane_same (s : State) (l : Lane) (x : LaneState) : (s.setLane l x).lane l = x := by cases l <;> rfl

theorem State.lane_setLane (s : State) (l m : Lane) (x : LaneState) : (s.setLane l x).lane m = if m = l then x else s.lane m := by
  cases l <;> cases m <;> rfl

theorem State.lane_mapLane (s : State) (l m : Lane) (f : LaneState → LaneState) :
    (s.mapLane l f).lane m = if m = l then f (s.lane l) else s.lane m := State.lane_setLane s l m _

theorem State.lane_eq (s t : State) (h : s.ring = t.ring) (l : Lane) : s.lane l = t.lane l := by unfold State.lane; rw [h]

theorem State.setLane_lane (s : State) (l : Lane) : s.setLane l (s.lane l) = s := by cases l <;> rfl

end Sys2Proof.Machine
end

