-- ==== Sys2Proof/Laws/OpsFrames.lean ====
section
/-! SUPPORT. Frames of the shared operations of Ops.lean: for each operation, everything it leaves alone. As simp lemmas they read as one
rewriting rule for each part. -/

namespace Sys2Proof.Machine

/-- Offering records changes the Event List alone. -/
@[simp] theorem State.offerAll_frame (s : State) (ds : List Draft) :
    (s.offerAll ds).pending = s.pending ∧ (s.offerAll ds).powered = s.powered ∧ (s.offerAll ds).now = s.now ∧
    (s.offerAll ds).timer = s.timer ∧ (s.offerAll ds).acquisition = s.acquisition ∧ (s.offerAll ds).ring = s.ring ∧
    (s.offerAll ds).table = s.table ∧ (s.offerAll ds).membership = s.membership ∧ (s.offerAll ds).replica = s.replica ∧
    (s.offerAll ds).zones = s.zones ∧ (s.offerAll ds).trip = s.trip ∧ (s.offerAll ds).life = s.life ∧
    (s.offerAll ds).supply = s.supply ∧ (s.offerAll ds).link = s.link ∧ (s.offerAll ds).freeIndex = s.freeIndex := by
  induction ds generalizing s with
  | nil => simp [State.offerAll]
  | cons d ds ih => simpa [State.offerAll] using ih (s.offer d)

/-- Offering the records of several blocks changes the Event List and the draw of free values alone. -/
@[simp] theorem State.offerGroups_frame (s : State) (gs : List (List Draft)) :
    (s.offerGroups gs).pending = s.pending ∧ (s.offerGroups gs).powered = s.powered ∧ (s.offerGroups gs).now = s.now ∧
    (s.offerGroups gs).timer = s.timer ∧ (s.offerGroups gs).acquisition = s.acquisition ∧ (s.offerGroups gs).ring = s.ring ∧
    (s.offerGroups gs).table = s.table ∧ (s.offerGroups gs).membership = s.membership ∧
    (s.offerGroups gs).replica = s.replica ∧ (s.offerGroups gs).zones = s.zones ∧ (s.offerGroups gs).trip = s.trip ∧
    (s.offerGroups gs).life = s.life ∧ (s.offerGroups gs).supply = s.supply ∧ (s.offerGroups gs).link = s.link := by
  unfold State.offerGroups; split <;> simp

/-- A transmitter served changes the ring alone. -/
@[simp] theorem State.serve_frame (s : State) (l : Lane) :
    (s.serve l).pending = s.pending ∧ (s.serve l).powered = s.powered ∧ (s.serve l).now = s.now ∧
    (s.serve l).timer = s.timer ∧ (s.serve l).acquisition = s.acquisition ∧ (s.serve l).table = s.table ∧
    (s.serve l).membership = s.membership ∧ (s.serve l).replica = s.replica ∧ (s.serve l).zones = s.zones ∧
    (s.serve l).trip = s.trip ∧ (s.serve l).life = s.life ∧ (s.serve l).supply = s.supply ∧ (s.serve l).link = s.link ∧
    (s.serve l).events = s.events ∧ (s.serve l).freeIndex = s.freeIndex := by
  unfold State.serve; simp only []; split
  · simp
  · split <;> simp

/-- A transmitter woken changes the ring alone. -/
@[simp] theorem State.kick_frame (s : State) (l : Lane) :
    (s.kick l).pending = s.pending ∧ (s.kick l).powered = s.powered ∧ (s.kick l).now = s.now ∧ (s.kick l).timer = s.timer ∧
    (s.kick l).acquisition = s.acquisition ∧ (s.kick l).table = s.table ∧ (s.kick l).membership = s.membership ∧
    (s.kick l).replica = s.replica ∧ (s.kick l).zones = s.zones ∧ (s.kick l).trip = s.trip ∧ (s.kick l).life = s.life ∧
    (s.kick l).supply = s.supply ∧ (s.kick l).link = s.link ∧ (s.kick l).events = s.events ∧
    (s.kick l).freeIndex = s.freeIndex := by
  unfold State.kick; split <;> simp

/-- A line clear requested changes the ring alone. -/
@[simp] theorem State.requestClear_frame (s : State) (l : Lane) :
    (s.requestClear l).pending = s.pending ∧ (s.requestClear l).powered = s.powered ∧ (s.requestClear l).now = s.now ∧
    (s.requestClear l).timer = s.timer ∧ (s.requestClear l).acquisition = s.acquisition ∧
    (s.requestClear l).table = s.table ∧ (s.requestClear l).membership = s.membership ∧
    (s.requestClear l).replica = s.replica ∧ (s.requestClear l).zones = s.zones ∧ (s.requestClear l).trip = s.trip ∧
    (s.requestClear l).life = s.life ∧ (s.requestClear l).supply = s.supply ∧ (s.requestClear l).link = s.link ∧
    (s.requestClear l).events = s.events ∧ (s.requestClear l).freeIndex = s.freeIndex := by
  simp [State.requestClear]

/-- A frame queued changes the ring alone. -/
@[simp] theorem State.append_frame (s : State) (l : Lane) (f : QueuedFrame) :
    (s.append l f).pending = s.pending ∧ (s.append l f).powered = s.powered ∧ (s.append l f).now = s.now ∧
    (s.append l f).timer = s.timer ∧ (s.append l f).acquisition = s.acquisition ∧ (s.append l f).table = s.table ∧
    (s.append l f).membership = s.membership ∧ (s.append l f).replica = s.replica ∧ (s.append l f).zones = s.zones ∧
    (s.append l f).trip = s.trip ∧ (s.append l f).life = s.life ∧ (s.append l f).supply = s.supply ∧
    (s.append l f).link = s.link ∧ (s.append l f).events = s.events ∧ (s.append l f).freeIndex = s.freeIndex := by
  simp [State.append]

/-- A frame dropped changes the ring alone. -/
@[simp] theorem State.dropFrame_frame (s : State) (l : Lane) :
    (s.dropFrame l).pending = s.pending ∧ (s.dropFrame l).powered = s.powered ∧ (s.dropFrame l).now = s.now ∧
    (s.dropFrame l).timer = s.timer ∧ (s.dropFrame l).acquisition = s.acquisition ∧ (s.dropFrame l).table = s.table ∧
    (s.dropFrame l).membership = s.membership ∧ (s.dropFrame l).replica = s.replica ∧ (s.dropFrame l).zones = s.zones ∧
    (s.dropFrame l).trip = s.trip ∧ (s.dropFrame l).life = s.life ∧ (s.dropFrame l).supply = s.supply ∧
    (s.dropFrame l).link = s.link ∧ (s.dropFrame l).events = s.events ∧ (s.dropFrame l).freeIndex = s.freeIndex := by
  simp [State.dropFrame]

/-- A frame offered to a queue changes the ring alone. -/
@[simp] theorem State.enqueue_frame (s : State) (l : Lane) (f : QueuedFrame) :
    (s.enqueue l f).pending = s.pending ∧ (s.enqueue l f).powered = s.powered ∧ (s.enqueue l f).now = s.now ∧
    (s.enqueue l f).timer = s.timer ∧ (s.enqueue l f).acquisition = s.acquisition ∧ (s.enqueue l f).table = s.table ∧
    (s.enqueue l f).membership = s.membership ∧ (s.enqueue l f).replica = s.replica ∧ (s.enqueue l f).zones = s.zones ∧
    (s.enqueue l f).trip = s.trip ∧ (s.enqueue l f).life = s.life ∧ (s.enqueue l f).supply = s.supply ∧
    (s.enqueue l f).link = s.link ∧ (s.enqueue l f).events = s.events ∧ (s.enqueue l f).freeIndex = s.freeIndex := by
  unfold State.enqueue; split <;> simp

/-- A change of station state changes the Controller, the Trip Unit and the own entry alone. -/
@[simp] theorem State.moveTo_frame (s : State) (new : StationState) :
    (s.moveTo new).pending = s.pending ∧ (s.moveTo new).powered = s.powered ∧ (s.moveTo new).now = s.now ∧
    (s.moveTo new).timer = s.timer ∧ (s.moveTo new).acquisition = s.acquisition ∧ (s.moveTo new).ring = s.ring ∧
    (s.moveTo new).table = s.table ∧ (s.moveTo new).replica = s.replica ∧ (s.moveTo new).zones = s.zones ∧
    (s.moveTo new).supply = s.supply ∧ (s.moveTo new).link = s.link ∧ (s.moveTo new).events = s.events ∧
    (s.moveTo new).freeIndex = s.freeIndex := by
  simp [State.moveTo]

/-- A change of station state with its records. -/
@[simp] theorem State.enter_frame (s : State) (new : StationState) (gs : List (List Draft)) :
    (s.enter new gs).pending = s.pending ∧ (s.enter new gs).powered = s.powered ∧ (s.enter new gs).now = s.now ∧
    (s.enter new gs).timer = s.timer ∧ (s.enter new gs).acquisition = s.acquisition ∧ (s.enter new gs).ring = s.ring ∧
    (s.enter new gs).table = s.table ∧ (s.enter new gs).replica = s.replica ∧ (s.enter new gs).zones = s.zones ∧
    (s.enter new gs).supply = s.supply ∧ (s.enter new gs).link = s.link := by
  simp [State.enter]

/-- A change of station state that records STATION_STATE. -/
@[simp] theorem State.transition_frame (s : State) (new : StationState) (r : StationReason) (more : List Byte) :
    (s.transition new r more).pending = s.pending ∧ (s.transition new r more).powered = s.powered ∧
    (s.transition new r more).now = s.now ∧ (s.transition new r more).timer = s.timer ∧
    (s.transition new r more).acquisition = s.acquisition ∧ (s.transition new r more).ring = s.ring ∧
    (s.transition new r more).table = s.table ∧ (s.transition new r more).replica = s.replica ∧
    (s.transition new r more).zones = s.zones ∧ (s.transition new r more).supply = s.supply ∧
    (s.transition new r more).link = s.link := by
  simp [State.transition]

/-- A LEAVE report. -/
@[simp] theorem State.report_frame (s : State) (sent : Bool) :
    (s.report sent).pending = s.pending ∧ (s.report sent).powered = s.powered ∧ (s.report sent).now = s.now ∧
    (s.report sent).timer = s.timer ∧ (s.report sent).acquisition = s.acquisition ∧ (s.report sent).ring = s.ring ∧
    (s.report sent).table = s.table ∧ (s.report sent).replica = s.replica ∧ (s.report sent).zones = s.zones ∧
    (s.report sent).supply = s.supply ∧ (s.report sent).link = s.link := by
  unfold State.report; split
  · simp only []; split <;> simp
  · simp

/-- An own LEAVE offered to a queue. -/
@[simp] theorem State.enqueueLeave_frame (s : State) (l : Lane) (f : QueuedFrame) :
    (s.enqueueLeave l f).pending = s.pending ∧ (s.enqueueLeave l f).powered = s.powered ∧ (s.enqueueLeave l f).now = s.now ∧
    (s.enqueueLeave l f).timer = s.timer ∧ (s.enqueueLeave l f).acquisition = s.acquisition ∧
    (s.enqueueLeave l f).table = s.table ∧ (s.enqueueLeave l f).replica = s.replica ∧ (s.enqueueLeave l f).zones = s.zones ∧
    (s.enqueueLeave l f).supply = s.supply ∧ (s.enqueueLeave l f).link = s.link := by
  unfold State.enqueueLeave; split <;> simp

end Sys2Proof.Machine
end

