-- ==== Sys2Proof/Laws/UnitsFrames.lean ====
section
/-! SUPPORT. Frames of the units at marks and closes: for each operation, everything it leaves alone. As simp lemmas they read as one
rewriting rule for each part. -/

namespace Sys2Proof.Machine

/-- A mark taken by the Acquisition Unit. -/
@[simp] theorem State.acquireMark_frame (s : State) (x : BayLines) (tag : ScanTag) :
    (s.acquireMark x tag).pending = s.pending ∧ (s.acquireMark x tag).powered = s.powered ∧
    (s.acquireMark x tag).now = s.now ∧ (s.acquireMark x tag).timer = s.timer ∧ (s.acquireMark x tag).ring = s.ring ∧
    (s.acquireMark x tag).table = s.table ∧ (s.acquireMark x tag).membership = s.membership ∧
    (s.acquireMark x tag).replica = s.replica ∧ (s.acquireMark x tag).zones = s.zones ∧
    (s.acquireMark x tag).trip = s.trip ∧ (s.acquireMark x tag).life = s.life ∧ (s.acquireMark x tag).supply = s.supply ∧
    (s.acquireMark x tag).link = s.link ∧ (s.acquireMark x tag).events = s.events ∧
    (s.acquireMark x tag).freeIndex = s.freeIndex := by
  simp [State.acquireMark]

/-- What a capture and a recapture have in common. -/
@[simp] theorem State.adopt_frame (s : State) (c : Configuration) (r : Round) (p : Nat) :
    (s.adopt c r p).pending = s.pending ∧ (s.adopt c r p).powered = s.powered ∧ (s.adopt c r p).now = s.now ∧
    (s.adopt c r p).ring = s.ring ∧ (s.adopt c r p).membership = s.membership ∧ (s.adopt c r p).replica = s.replica ∧
    (s.adopt c r p).zones = s.zones ∧ (s.adopt c r p).trip = s.trip ∧ (s.adopt c r p).life = s.life ∧
    (s.adopt c r p).supply = s.supply ∧ (s.adopt c r p).link = s.link ∧ (s.adopt c r p).events = s.events ∧
    (s.adopt c r p).freeIndex = s.freeIndex := by
  simp [State.adopt]

/-- A capture. -/
@[simp] theorem State.capture_frame (s : State) (c : Configuration) (n : Nat) (r : Round) (age : Nat) :
    (s.capture c n r age).pending = s.pending ∧ (s.capture c n r age).powered = s.powered ∧
    (s.capture c n r age).now = s.now ∧ (s.capture c n r age).ring = s.ring ∧
    (s.capture c n r age).membership = s.membership ∧ (s.capture c n r age).replica = s.replica ∧
    (s.capture c n r age).zones = s.zones ∧ (s.capture c n r age).trip = s.trip ∧ (s.capture c n r age).life = s.life ∧
    (s.capture c n r age).supply = s.supply ∧ (s.capture c n r age).link = s.link ∧
    (s.capture c n r age).freeIndex = s.freeIndex := by
  simp [State.capture]

/-- The Round Timer at a close. -/
@[simp] theorem State.timerClose_frame (s : State) (c : Configuration) :
    (s.timerClose c).pending = s.pending ∧ (s.timerClose c).powered = s.powered ∧ (s.timerClose c).now = s.now ∧
    (s.timerClose c).acquisition = s.acquisition ∧ (s.timerClose c).ring = s.ring ∧ (s.timerClose c).table = s.table ∧
    (s.timerClose c).membership = s.membership ∧ (s.timerClose c).replica = s.replica ∧ (s.timerClose c).zones = s.zones ∧
    (s.timerClose c).trip = s.trip ∧ (s.timerClose c).life = s.life ∧ (s.timerClose c).supply = s.supply ∧
    (s.timerClose c).link = s.link ∧ (s.timerClose c).events = s.events ∧ (s.timerClose c).freeIndex = s.freeIndex := by
  unfold State.timerClose; repeat' split
  all_goals simp

/-- The Membership Table at a close. -/
@[simp] theorem State.membershipClose_frame (s : State) (c : Configuration) :
    (s.membershipClose c).pending = s.pending ∧ (s.membershipClose c).powered = s.powered ∧
    (s.membershipClose c).now = s.now ∧ (s.membershipClose c).timer = s.timer ∧
    (s.membershipClose c).acquisition = s.acquisition ∧ (s.membershipClose c).ring = s.ring ∧
    (s.membershipClose c).table = s.table ∧ (s.membershipClose c).replica = s.replica ∧
    (s.membershipClose c).zones = s.zones ∧ (s.membershipClose c).trip = s.trip ∧ (s.membershipClose c).life = s.life ∧
    (s.membershipClose c).supply = s.supply ∧ (s.membershipClose c).link = s.link ∧
    (s.membershipClose c).freeIndex = s.freeIndex := by
  unfold State.membershipClose; split <;> simp

/-- An entry's state changed by an arrival. -/
@[simp] theorem State.changeEntry_frame (s : State) (e : Entry) (f : Entry → Entry) :
    (s.changeEntry e f).pending = s.pending ∧ (s.changeEntry e f).powered = s.powered ∧ (s.changeEntry e f).now = s.now ∧
    (s.changeEntry e f).timer = s.timer ∧ (s.changeEntry e f).acquisition = s.acquisition ∧
    (s.changeEntry e f).ring = s.ring ∧ (s.changeEntry e f).table = s.table ∧ (s.changeEntry e f).replica = s.replica ∧
    (s.changeEntry e f).zones = s.zones ∧ (s.changeEntry e f).trip = s.trip ∧ (s.changeEntry e f).life = s.life ∧
    (s.changeEntry e f).supply = s.supply ∧ (s.changeEntry e f).link = s.link ∧
    (s.changeEntry e f).freeIndex = s.freeIndex := by
  simp [State.changeEntry]

/-- A LEAVE handed to the Membership Table. -/
@[simp] theorem State.leaveArrival_frame (s : State) (f : LeaveFrame) :
    (s.leaveArrival f).pending = s.pending ∧ (s.leaveArrival f).powered = s.powered ∧ (s.leaveArrival f).now = s.now ∧
    (s.leaveArrival f).timer = s.timer ∧ (s.leaveArrival f).acquisition = s.acquisition ∧ (s.leaveArrival f).ring = s.ring ∧
    (s.leaveArrival f).table = s.table ∧ (s.leaveArrival f).replica = s.replica ∧ (s.leaveArrival f).zones = s.zones ∧
    (s.leaveArrival f).trip = s.trip ∧ (s.leaveArrival f).life = s.life ∧ (s.leaveArrival f).supply = s.supply ∧
    (s.leaveArrival f).link = s.link ∧ (s.leaveArrival f).freeIndex = s.freeIndex := by
  unfold State.leaveArrival; repeat' split
  all_goals simp

/-- The Replica Unit at a close. -/
@[simp] theorem State.replicaClose_frame (s : State) (c : Configuration) :
    (s.replicaClose c).pending = s.pending ∧ (s.replicaClose c).powered = s.powered ∧ (s.replicaClose c).now = s.now ∧
    (s.replicaClose c).timer = s.timer ∧ (s.replicaClose c).acquisition = s.acquisition ∧ (s.replicaClose c).ring = s.ring ∧
    (s.replicaClose c).table = s.table ∧ (s.replicaClose c).membership = s.membership ∧ (s.replicaClose c).zones = s.zones ∧
    (s.replicaClose c).trip = s.trip ∧ (s.replicaClose c).life = s.life ∧ (s.replicaClose c).supply = s.supply ∧
    (s.replicaClose c).link = s.link ∧ (s.replicaClose c).freeIndex = s.freeIndex := by
  unfold State.replicaClose; split <;> simp

/-- The Zone Evaluator at a close. -/
@[simp] theorem State.zonesClose_frame (s : State) (c : Configuration) :
    (s.zonesClose c).pending = s.pending ∧ (s.zonesClose c).powered = s.powered ∧ (s.zonesClose c).now = s.now ∧
    (s.zonesClose c).timer = s.timer ∧ (s.zonesClose c).acquisition = s.acquisition ∧ (s.zonesClose c).ring = s.ring ∧
    (s.zonesClose c).table = s.table ∧ (s.zonesClose c).membership = s.membership ∧ (s.zonesClose c).replica = s.replica ∧
    (s.zonesClose c).trip = s.trip ∧ (s.zonesClose c).life = s.life ∧ (s.zonesClose c).supply = s.supply ∧
    (s.zonesClose c).link = s.link := by
  unfold State.zonesClose; split <;> simp

/-- The own peak taken. -/
@[simp] theorem State.takePeak_frame (s : State) (c : Configuration) :
    (s.takePeak c).pending = s.pending ∧ (s.takePeak c).powered = s.powered ∧ (s.takePeak c).now = s.now ∧
    (s.takePeak c).timer = s.timer ∧ (s.takePeak c).acquisition = s.acquisition ∧ (s.takePeak c).ring = s.ring ∧
    (s.takePeak c).table = s.table ∧ (s.takePeak c).membership = s.membership ∧ (s.takePeak c).replica = s.replica ∧
    (s.takePeak c).zones = s.zones ∧ (s.takePeak c).life = s.life ∧ (s.takePeak c).supply = s.supply ∧
    (s.takePeak c).link = s.link ∧ (s.takePeak c).events = s.events ∧ (s.takePeak c).freeIndex = s.freeIndex := by
  simp [State.takePeak]

/-- The cause set formed. -/
@[simp] theorem State.formCauses_frame (s : State) (c : Configuration) :
    (s.formCauses c).pending = s.pending ∧ (s.formCauses c).powered = s.powered ∧ (s.formCauses c).now = s.now ∧
    (s.formCauses c).timer = s.timer ∧ (s.formCauses c).acquisition = s.acquisition ∧ (s.formCauses c).ring = s.ring ∧
    (s.formCauses c).table = s.table ∧ (s.formCauses c).membership = s.membership ∧ (s.formCauses c).replica = s.replica ∧
    (s.formCauses c).zones = s.zones ∧ (s.formCauses c).life = s.life ∧ (s.formCauses c).supply = s.supply ∧
    (s.formCauses c).link = s.link ∧ (s.formCauses c).events = s.events ∧ (s.formCauses c).freeIndex = s.freeIndex := by
  unfold State.formCauses; split <;> simp

/-- The trip output decided. -/
@[simp] theorem State.decideOutput_frame (s : State) (c : Configuration) :
    (s.decideOutput c).pending = s.pending ∧ (s.decideOutput c).powered = s.powered ∧ (s.decideOutput c).now = s.now ∧
    (s.decideOutput c).timer = s.timer ∧ (s.decideOutput c).acquisition = s.acquisition ∧ (s.decideOutput c).ring = s.ring ∧
    (s.decideOutput c).table = s.table ∧ (s.decideOutput c).membership = s.membership ∧
    (s.decideOutput c).replica = s.replica ∧ (s.decideOutput c).zones = s.zones ∧ (s.decideOutput c).life = s.life ∧
    (s.decideOutput c).supply = s.supply ∧ (s.decideOutput c).link = s.link ∧
    (s.decideOutput c).freeIndex = s.freeIndex := by
  unfold State.decideOutput State.holdOutput State.energise; simp only []; repeat' split
  all_goals simp

/-- The breaker-failure timer stepped. -/
@[simp] theorem State.stepBf_frame (s : State) (c : Configuration) :
    (s.stepBf c).pending = s.pending ∧ (s.stepBf c).powered = s.powered ∧ (s.stepBf c).now = s.now ∧
    (s.stepBf c).timer = s.timer ∧ (s.stepBf c).acquisition = s.acquisition ∧ (s.stepBf c).ring = s.ring ∧
    (s.stepBf c).table = s.table ∧ (s.stepBf c).membership = s.membership ∧ (s.stepBf c).replica = s.replica ∧
    (s.stepBf c).zones = s.zones ∧ (s.stepBf c).life = s.life ∧ (s.stepBf c).supply = s.supply ∧
    (s.stepBf c).link = s.link ∧ (s.stepBf c).freeIndex = s.freeIndex := by
  unfold State.stepBf State.bfIdle State.bfRunning State.bfExpiredStep; repeat' split
  all_goals simp

/-- The Trip Unit at a close. -/
@[simp] theorem State.tripClose_frame (s : State) (c : Configuration) :
    (s.tripClose c).pending = s.pending ∧ (s.tripClose c).powered = s.powered ∧ (s.tripClose c).now = s.now ∧
    (s.tripClose c).timer = s.timer ∧ (s.tripClose c).acquisition = s.acquisition ∧ (s.tripClose c).ring = s.ring ∧
    (s.tripClose c).table = s.table ∧ (s.tripClose c).membership = s.membership ∧ (s.tripClose c).replica = s.replica ∧
    (s.tripClose c).zones = s.zones ∧ (s.tripClose c).life = s.life ∧ (s.tripClose c).supply = s.supply ∧
    (s.tripClose c).link = s.link ∧ (s.tripClose c).freeIndex = s.freeIndex := by
  simp [State.tripClose]

end Sys2Proof.Machine
end

