-- ==== Sys2Proof/Laws/ArrivalsFrames.lean ====
section
/-! SUPPORT. Frames of scans and arrivals: for each operation, everything it leaves alone. As simp lemmas they read as one
rewriting rule for each part. -/

namespace Sys2Proof.Machine

/-- A scan result handed to the Trip Unit. -/
@[simp] theorem State.handTrip_frame (s : State) (c : Configuration) (i : Tri Int) (q : Quality) :
    (s.handTrip c i q).pending = s.pending ∧ (s.handTrip c i q).powered = s.powered ∧ (s.handTrip c i q).now = s.now ∧
    (s.handTrip c i q).timer = s.timer ∧ (s.handTrip c i q).acquisition = s.acquisition ∧ (s.handTrip c i q).ring = s.ring ∧
    (s.handTrip c i q).table = s.table ∧ (s.handTrip c i q).membership = s.membership ∧
    (s.handTrip c i q).replica = s.replica ∧ (s.handTrip c i q).zones = s.zones ∧ (s.handTrip c i q).life = s.life ∧
    (s.handTrip c i q).supply = s.supply ∧ (s.handTrip c i q).link = s.link ∧ (s.handTrip c i q).events = s.events ∧
    (s.handTrip c i q).freeIndex = s.freeIndex := by
  simp [State.handTrip]

/-- An own contribution sent. -/
@[simp] theorem State.sendOwn_frame (s : State) (f : QueuedFrame) :
    (s.sendOwn f).pending = s.pending ∧ (s.sendOwn f).powered = s.powered ∧ (s.sendOwn f).now = s.now ∧
    (s.sendOwn f).timer = s.timer ∧ (s.sendOwn f).acquisition = s.acquisition ∧ (s.sendOwn f).table = s.table ∧
    (s.sendOwn f).membership = s.membership ∧ (s.sendOwn f).replica = s.replica ∧ (s.sendOwn f).zones = s.zones ∧
    (s.sendOwn f).trip = s.trip ∧ (s.sendOwn f).life = s.life ∧ (s.sendOwn f).supply = s.supply ∧
    (s.sendOwn f).link = s.link ∧ (s.sendOwn f).events = s.events ∧ (s.sendOwn f).freeIndex = s.freeIndex := by
  simp [State.sendOwn]

/-- An own contribution built. -/
@[simp] theorem State.ownBuild_frame (s : State) (c : Configuration) (k : Round) (i : Tri Int) (q : Quality) (p : Positions) :
    (s.ownBuild c k i q p).pending = s.pending ∧ (s.ownBuild c k i q p).powered = s.powered ∧
    (s.ownBuild c k i q p).now = s.now ∧ (s.ownBuild c k i q p).timer = s.timer ∧
    (s.ownBuild c k i q p).acquisition = s.acquisition ∧ (s.ownBuild c k i q p).replica = s.replica ∧
    (s.ownBuild c k i q p).zones = s.zones ∧ (s.ownBuild c k i q p).trip = s.trip ∧
    (s.ownBuild c k i q p).supply = s.supply ∧ (s.ownBuild c k i q p).link = s.link ∧
    (s.ownBuild c k i q p).events = s.events ∧ (s.ownBuild c k i q p).freeIndex = s.freeIndex := by
  unfold State.ownBuild; simp only []; split <;> simp

/-- A scan result handed on. -/
@[simp] theorem State.handOn_frame (s : State) (c : Configuration) (tag : ScanTag) (i : Tri Int) (q : Quality) :
    (s.handOn c tag i q).pending = s.pending ∧ (s.handOn c tag i q).powered = s.powered ∧ (s.handOn c tag i q).now = s.now ∧
    (s.handOn c tag i q).timer = s.timer ∧ (s.handOn c tag i q).acquisition = s.acquisition ∧
    (s.handOn c tag i q).replica = s.replica ∧ (s.handOn c tag i q).zones = s.zones ∧
    (s.handOn c tag i q).supply = s.supply ∧ (s.handOn c tag i q).link = s.link ∧ (s.handOn c tag i q).events = s.events ∧
    (s.handOn c tag i q).freeIndex = s.freeIndex := by
  unfold State.handOn; repeat' split
  all_goals simp

/-- The Acquisition Unit at the completion of a scan. -/
@[simp] theorem State.scanUnit_frame (s : State) (n : ScanCounts) :
    (s.scanUnit n).pending = s.pending ∧ (s.scanUnit n).powered = s.powered ∧ (s.scanUnit n).now = s.now ∧
    (s.scanUnit n).timer = s.timer ∧ (s.scanUnit n).ring = s.ring ∧ (s.scanUnit n).table = s.table ∧
    (s.scanUnit n).membership = s.membership ∧ (s.scanUnit n).replica = s.replica ∧ (s.scanUnit n).zones = s.zones ∧
    (s.scanUnit n).trip = s.trip ∧ (s.scanUnit n).life = s.life ∧ (s.scanUnit n).supply = s.supply ∧
    (s.scanUnit n).link = s.link ∧ (s.scanUnit n).freeIndex = s.freeIndex := by
  simp [State.scanUnit]

/-- The completion of a scan. -/
@[simp] theorem State.scanComplete_frame (s : State) (n : ScanCounts) :
    (s.scanComplete n).pending = s.pending ∧ (s.scanComplete n).powered = s.powered ∧ (s.scanComplete n).now = s.now ∧
    (s.scanComplete n).timer = s.timer ∧ (s.scanComplete n).replica = s.replica ∧ (s.scanComplete n).zones = s.zones ∧
    (s.scanComplete n).supply = s.supply ∧ (s.scanComplete n).link = s.link ∧
    (s.scanComplete n).freeIndex = s.freeIndex := by
  unfold State.scanComplete; repeat' split
  all_goals simp

/-- A recapture. -/
@[simp] theorem State.recapture_frame (s : State) (c : Configuration) (n : Nat) (r : Round) (age : Nat) :
    (s.recapture c n r age).pending = s.pending ∧ (s.recapture c n r age).powered = s.powered ∧
    (s.recapture c n r age).now = s.now ∧ (s.recapture c n r age).ring = s.ring ∧
    (s.recapture c n r age).replica = s.replica ∧ (s.recapture c n r age).trip = s.trip ∧
    (s.recapture c n r age).life = s.life ∧ (s.recapture c n r age).supply = s.supply ∧
    (s.recapture c n r age).link = s.link := by
  simp [State.recapture]

/-- A refused arrival. -/
@[simp] theorem State.refuseArrival_frame (s : State) (f : Contrib) (e : Entry) :
    (s.refuseArrival f e).pending = s.pending ∧ (s.refuseArrival f e).powered = s.powered ∧
    (s.refuseArrival f e).now = s.now ∧ (s.refuseArrival f e).timer = s.timer ∧
    (s.refuseArrival f e).acquisition = s.acquisition ∧ (s.refuseArrival f e).ring = s.ring ∧
    (s.refuseArrival f e).replica = s.replica ∧ (s.refuseArrival f e).zones = s.zones ∧
    (s.refuseArrival f e).trip = s.trip ∧ (s.refuseArrival f e).life = s.life ∧ (s.refuseArrival f e).supply = s.supply ∧
    (s.refuseArrival f e).link = s.link ∧ (s.refuseArrival f e).freeIndex = s.freeIndex := by
  unfold State.refuseArrival; simp only []; split <;> simp

/-- An accepted arrival. -/
@[simp] theorem State.acceptArrival_frame (s : State) (c : Configuration) (l : Lane) (f : Contrib) :
    (s.acceptArrival c l f).pending = s.pending ∧ (s.acceptArrival c l f).powered = s.powered ∧
    (s.acceptArrival c l f).now = s.now ∧ (s.acceptArrival c l f).timer = s.timer ∧
    (s.acceptArrival c l f).acquisition = s.acquisition ∧ (s.acceptArrival c l f).ring = s.ring ∧
    (s.acceptArrival c l f).replica = s.replica ∧ (s.acceptArrival c l f).zones = s.zones ∧
    (s.acceptArrival c l f).trip = s.trip ∧ (s.acceptArrival c l f).life = s.life ∧
    (s.acceptArrival c l f).supply = s.supply ∧ (s.acceptArrival c l f).link = s.link ∧
    (s.acceptArrival c l f).events = s.events ∧ (s.acceptArrival c l f).freeIndex = s.freeIndex := by
  simp [State.acceptArrival]

/-- A differing second copy. -/
@[simp] theorem State.disputeArrival_frame (s : State) (l : Lane) (f : Contrib) :
    (s.disputeArrival l f).pending = s.pending ∧ (s.disputeArrival l f).powered = s.powered ∧
    (s.disputeArrival l f).now = s.now ∧ (s.disputeArrival l f).timer = s.timer ∧
    (s.disputeArrival l f).acquisition = s.acquisition ∧ (s.disputeArrival l f).ring = s.ring ∧
    (s.disputeArrival l f).replica = s.replica ∧ (s.disputeArrival l f).zones = s.zones ∧
    (s.disputeArrival l f).trip = s.trip ∧ (s.disputeArrival l f).life = s.life ∧ (s.disputeArrival l f).supply = s.supply ∧
    (s.disputeArrival l f).link = s.link ∧ (s.disputeArrival l f).freeIndex = s.freeIndex := by
  simp [State.disputeArrival]

/-- An arrival for the open row. -/
@[simp] theorem State.slotArrival_frame (s : State) (c : Configuration) (l : Lane) (f : Contrib) (r : Row) :
    (s.slotArrival c l f r).pending = s.pending ∧ (s.slotArrival c l f r).powered = s.powered ∧
    (s.slotArrival c l f r).now = s.now ∧ (s.slotArrival c l f r).timer = s.timer ∧
    (s.slotArrival c l f r).acquisition = s.acquisition ∧ (s.slotArrival c l f r).ring = s.ring ∧
    (s.slotArrival c l f r).replica = s.replica ∧ (s.slotArrival c l f r).zones = s.zones ∧
    (s.slotArrival c l f r).trip = s.trip ∧ (s.slotArrival c l f r).life = s.life ∧
    (s.slotArrival c l f r).supply = s.supply ∧ (s.slotArrival c l f r).link = s.link ∧
    (s.slotArrival c l f r).freeIndex = s.freeIndex := by
  unfold State.slotArrival; repeat' split
  all_goals simp

/-- An OUT_OF_WINDOW arrival. -/
@[simp] theorem State.outOfWindowArrival_frame (s : State) (c : Configuration) (f : Contrib) :
    (s.outOfWindowArrival c f).pending = s.pending ∧ (s.outOfWindowArrival c f).powered = s.powered ∧
    (s.outOfWindowArrival c f).now = s.now ∧ (s.outOfWindowArrival c f).ring = s.ring ∧
    (s.outOfWindowArrival c f).replica = s.replica ∧ (s.outOfWindowArrival c f).trip = s.trip ∧
    (s.outOfWindowArrival c f).life = s.life ∧ (s.outOfWindowArrival c f).supply = s.supply ∧
    (s.outOfWindowArrival c f).link = s.link := by
  unfold State.outOfWindowArrival; simp only []; split <;> simp

/-- A CONTRIB handed to the Round Table. -/
@[simp] theorem State.contribArrival_frame (s : State) (c : Configuration) (l : Lane) (f : Contrib) :
    (s.contribArrival c l f).pending = s.pending ∧ (s.contribArrival c l f).powered = s.powered ∧
    (s.contribArrival c l f).now = s.now ∧ (s.contribArrival c l f).ring = s.ring ∧
    (s.contribArrival c l f).replica = s.replica ∧ (s.contribArrival c l f).trip = s.trip ∧
    (s.contribArrival c l f).life = s.life ∧ (s.contribArrival c l f).supply = s.supply ∧
    (s.contribArrival c l f).link = s.link := by
  unfold State.contribArrival; repeat' split
  all_goals simp

/-- A CONTRIB handed to the Round Timer in LISTEN. -/
@[simp] theorem State.captureArrival_frame (s : State) (c : Configuration) (f : Contrib) :
    (s.captureArrival c f).pending = s.pending ∧ (s.captureArrival c f).powered = s.powered ∧
    (s.captureArrival c f).now = s.now ∧ (s.captureArrival c f).ring = s.ring ∧
    (s.captureArrival c f).membership = s.membership ∧ (s.captureArrival c f).replica = s.replica ∧
    (s.captureArrival c f).zones = s.zones ∧ (s.captureArrival c f).trip = s.trip ∧ (s.captureArrival c f).life = s.life ∧
    (s.captureArrival c f).supply = s.supply ∧ (s.captureArrival c f).link = s.link ∧
    (s.captureArrival c f).freeIndex = s.freeIndex := by
  unfold State.captureArrival; split <;> simp

/-- An identity clash. -/
@[simp] theorem State.identityClash_frame (s : State) (lead : Byte) (r : Round) (l : Lane) :
    (s.identityClash lead r l).pending = s.pending ∧ (s.identityClash lead r l).powered = s.powered ∧
    (s.identityClash lead r l).now = s.now ∧ (s.identityClash lead r l).timer = s.timer ∧
    (s.identityClash lead r l).acquisition = s.acquisition ∧ (s.identityClash lead r l).ring = s.ring ∧
    (s.identityClash lead r l).membership = s.membership ∧ (s.identityClash lead r l).replica = s.replica ∧
    (s.identityClash lead r l).zones = s.zones ∧ (s.identityClash lead r l).trip = s.trip ∧
    (s.identityClash lead r l).life = s.life ∧ (s.identityClash lead r l).supply = s.supply ∧
    (s.identityClash lead r l).link = s.link ∧ (s.identityClash lead r l).freeIndex = s.freeIndex := by
  unfold State.identityClash; simp only []; repeat' split
  all_goals simp

/-- A returning own CONTRIB. -/
@[simp] theorem State.ownReturn_frame (s : State) (c : Configuration) (l : Lane) (f : Contrib) :
    (s.ownReturn c l f).pending = s.pending ∧ (s.ownReturn c l f).powered = s.powered ∧ (s.ownReturn c l f).now = s.now ∧
    (s.ownReturn c l f).timer = s.timer ∧ (s.ownReturn c l f).acquisition = s.acquisition ∧
    (s.ownReturn c l f).ring = s.ring ∧ (s.ownReturn c l f).membership = s.membership ∧
    (s.ownReturn c l f).replica = s.replica ∧ (s.ownReturn c l f).zones = s.zones ∧ (s.ownReturn c l f).trip = s.trip ∧
    (s.ownReturn c l f).life = s.life ∧ (s.ownReturn c l f).supply = s.supply ∧ (s.ownReturn c l f).link = s.link ∧
    (s.ownReturn c l f).freeIndex = s.freeIndex := by
  unfold State.ownReturn; repeat' split
  all_goals simp

/-- A returning own LEAVE. -/
@[simp] theorem State.ownLeaveReturn_frame (s : State) (l : Lane) (f : LeaveFrame) :
    (s.ownLeaveReturn l f).pending = s.pending ∧ (s.ownLeaveReturn l f).powered = s.powered ∧
    (s.ownLeaveReturn l f).now = s.now ∧ (s.ownLeaveReturn l f).timer = s.timer ∧
    (s.ownLeaveReturn l f).acquisition = s.acquisition ∧ (s.ownLeaveReturn l f).ring = s.ring ∧
    (s.ownLeaveReturn l f).membership = s.membership ∧ (s.ownLeaveReturn l f).replica = s.replica ∧
    (s.ownLeaveReturn l f).zones = s.zones ∧ (s.ownLeaveReturn l f).trip = s.trip ∧ (s.ownLeaveReturn l f).life = s.life ∧
    (s.ownLeaveReturn l f).supply = s.supply ∧ (s.ownLeaveReturn l f).link = s.link ∧
    (s.ownLeaveReturn l f).freeIndex = s.freeIndex := by
  unfold State.ownLeaveReturn; split <;> simp

/-- A frame forwarded. -/
@[simp] theorem State.forwardFrame_frame (s : State) (l : Lane) (bs : List Byte) :
    (s.forwardFrame l bs).pending = s.pending ∧ (s.forwardFrame l bs).powered = s.powered ∧
    (s.forwardFrame l bs).now = s.now ∧ (s.forwardFrame l bs).timer = s.timer ∧
    (s.forwardFrame l bs).acquisition = s.acquisition ∧ (s.forwardFrame l bs).table = s.table ∧
    (s.forwardFrame l bs).membership = s.membership ∧ (s.forwardFrame l bs).replica = s.replica ∧
    (s.forwardFrame l bs).zones = s.zones ∧ (s.forwardFrame l bs).trip = s.trip ∧ (s.forwardFrame l bs).life = s.life ∧
    (s.forwardFrame l bs).supply = s.supply ∧ (s.forwardFrame l bs).link = s.link ∧
    (s.forwardFrame l bs).events = s.events ∧ (s.forwardFrame l bs).freeIndex = s.freeIndex := by
  unfold State.forwardFrame; repeat' split
  all_goals simp

/-- An own frame removed from the ring. -/
@[simp] theorem State.stripOwn_frame (s : State) (l : Lane) :
    (s.stripOwn l).pending = s.pending ∧ (s.stripOwn l).powered = s.powered ∧ (s.stripOwn l).now = s.now ∧
    (s.stripOwn l).timer = s.timer ∧ (s.stripOwn l).acquisition = s.acquisition ∧ (s.stripOwn l).table = s.table ∧
    (s.stripOwn l).membership = s.membership ∧ (s.stripOwn l).replica = s.replica ∧ (s.stripOwn l).zones = s.zones ∧
    (s.stripOwn l).trip = s.trip ∧ (s.stripOwn l).life = s.life ∧ (s.stripOwn l).supply = s.supply ∧
    (s.stripOwn l).link = s.link ∧ (s.stripOwn l).events = s.events ∧ (s.stripOwn l).freeIndex = s.freeIndex := by
  simp [State.stripOwn]

/-- A CONTRIB handed on. -/
@[simp] theorem State.handContrib_frame (s : State) (l : Lane) (f : Contrib) :
    (s.handContrib l f).pending = s.pending ∧ (s.handContrib l f).powered = s.powered ∧ (s.handContrib l f).now = s.now ∧
    (s.handContrib l f).ring = s.ring ∧ (s.handContrib l f).replica = s.replica ∧ (s.handContrib l f).trip = s.trip ∧
    (s.handContrib l f).life = s.life ∧ (s.handContrib l f).supply = s.supply ∧ (s.handContrib l f).link = s.link := by
  unfold State.handContrib; repeat' split
  all_goals simp

/-- A LEAVE handed on. -/
@[simp] theorem State.handLeave_frame (s : State) (f : LeaveFrame) :
    (s.handLeave f).pending = s.pending ∧ (s.handLeave f).powered = s.powered ∧ (s.handLeave f).now = s.now ∧
    (s.handLeave f).timer = s.timer ∧ (s.handLeave f).acquisition = s.acquisition ∧ (s.handLeave f).ring = s.ring ∧
    (s.handLeave f).table = s.table ∧ (s.handLeave f).replica = s.replica ∧ (s.handLeave f).zones = s.zones ∧
    (s.handLeave f).trip = s.trip ∧ (s.handLeave f).life = s.life ∧ (s.handLeave f).supply = s.supply ∧
    (s.handLeave f).link = s.link ∧ (s.handLeave f).freeIndex = s.freeIndex := by
  unfold State.handLeave; split <;> simp

/-- A good CONTRIB. -/
@[simp] theorem State.goodContrib_frame (s : State) (l : Lane) (bs : List Byte) :
    (s.goodContrib l bs).pending = s.pending ∧ (s.goodContrib l bs).powered = s.powered ∧ (s.goodContrib l bs).now = s.now ∧
    (s.goodContrib l bs).replica = s.replica ∧ (s.goodContrib l bs).trip = s.trip ∧ (s.goodContrib l bs).life = s.life ∧
    (s.goodContrib l bs).supply = s.supply ∧ (s.goodContrib l bs).link = s.link := by
  unfold State.goodContrib; repeat' split
  all_goals simp

/-- A good LEAVE. -/
@[simp] theorem State.goodLeave_frame (s : State) (l : Lane) (bs : List Byte) :
    (s.goodLeave l bs).pending = s.pending ∧ (s.goodLeave l bs).powered = s.powered ∧ (s.goodLeave l bs).now = s.now ∧
    (s.goodLeave l bs).timer = s.timer ∧ (s.goodLeave l bs).acquisition = s.acquisition ∧
    (s.goodLeave l bs).replica = s.replica ∧ (s.goodLeave l bs).zones = s.zones ∧ (s.goodLeave l bs).trip = s.trip ∧
    (s.goodLeave l bs).life = s.life ∧ (s.goodLeave l bs).supply = s.supply ∧ (s.goodLeave l bs).link = s.link ∧
    (s.goodLeave l bs).freeIndex = s.freeIndex := by
  unfold State.goodLeave; repeat' split
  all_goals simp

/-- The end of a frame's reception. -/
@[simp] theorem State.frameEnds_frame (s : State) (l : Lane) (bs : List Byte) :
    (s.frameEnds l bs).pending = s.pending ∧ (s.frameEnds l bs).powered = s.powered ∧ (s.frameEnds l bs).now = s.now ∧
    (s.frameEnds l bs).replica = s.replica ∧ (s.frameEnds l bs).trip = s.trip ∧ (s.frameEnds l bs).life = s.life ∧
    (s.frameEnds l bs).supply = s.supply ∧ (s.frameEnds l bs).link = s.link := by
  unfold State.frameEnds; repeat' split
  all_goals simp

/-- Characters of a frame. -/
@[simp] theorem State.frameChars_frame (s : State) (l : Lane) (lead : Byte) (n : Nat) (chars : List Byte) :
    (s.frameChars l lead n chars).pending = s.pending ∧ (s.frameChars l lead n chars).powered = s.powered ∧
    (s.frameChars l lead n chars).now = s.now ∧ (s.frameChars l lead n chars).replica = s.replica ∧
    (s.frameChars l lead n chars).trip = s.trip ∧ (s.frameChars l lead n chars).life = s.life ∧
    (s.frameChars l lead n chars).supply = s.supply ∧ (s.frameChars l lead n chars).link = s.link := by
  unfold State.frameChars; repeat' split
  all_goals simp

end Sys2Proof.Machine
end

