-- ==== Sys2Proof/Laws/LinesFrames.lean ====
section
/-! SUPPORT. Frames of the lanes: for each operation, everything it leaves alone. As simp lemmas they read as one
rewriting rule for each part. -/

namespace Sys2Proof.Machine

/-- A head frame sent changes the queue, the transmitter and the counters alone. -/
@[simp] theorem LaneState.headSent_frame (x : LaneState) (hold : Bool) (rest : List QueuedFrame) :
    (x.headSent hold rest).queue = rest ∧ (x.headSent hold rest).transmitter = .gap ∧
    (x.headSent hold rest).receiver = x.receiver ∧ (x.headSent hold rest).clearPending = x.clearPending ∧
    (x.headSent hold rest).up = x.up ∧ (x.headSent hold rest).silentRun = x.silentRun ∧
    (x.headSent hold rest).liveRun = x.liveRun ∧ (x.headSent hold rest).goodSeen = x.goodSeen :=
  ⟨rfl, rfl, rfl, rfl, rfl, rfl, rfl, rfl⟩

/-- In HOLD the counters stand. -/
@[simp] theorem LaneState.headSent_held (x : LaneState) (rest : List QueuedFrame) :
    (x.headSent true rest).counters = x.counters := rfl

/-- Elsewhere the frame is counted. -/
@[simp] theorem LaneState.headSent_counted (x : LaneState) (rest : List QueuedFrame) :
    (x.headSent false rest).counters = { x.counters with transmitted := bump16 x.counters.transmitted } := rfl

/-- A character that is no lead byte changes the ring alone. -/
@[simp] theorem State.unknownLead_frame (s : State) (l : Lane) (c : Byte) :
    (s.unknownLead l c).pending = s.pending ∧ (s.unknownLead l c).powered = s.powered ∧ (s.unknownLead l c).now = s.now ∧
    (s.unknownLead l c).timer = s.timer ∧ (s.unknownLead l c).acquisition = s.acquisition ∧
    (s.unknownLead l c).table = s.table ∧ (s.unknownLead l c).membership = s.membership ∧
    (s.unknownLead l c).replica = s.replica ∧ (s.unknownLead l c).zones = s.zones ∧ (s.unknownLead l c).trip = s.trip ∧
    (s.unknownLead l c).life = s.life ∧ (s.unknownLead l c).supply = s.supply ∧ (s.unknownLead l c).link = s.link ∧
    (s.unknownLead l c).events = s.events ∧ (s.unknownLead l c).freeIndex = s.freeIndex := by
  unfold State.unknownLead; split <;> simp

/-- A malformed character in HUNT changes the ring alone. -/
@[simp] theorem State.malformedInHunt_frame (s : State) (l : Lane) :
    (s.malformedInHunt l).pending = s.pending ∧ (s.malformedInHunt l).powered = s.powered ∧
    (s.malformedInHunt l).now = s.now ∧ (s.malformedInHunt l).timer = s.timer ∧
    (s.malformedInHunt l).acquisition = s.acquisition ∧ (s.malformedInHunt l).table = s.table ∧
    (s.malformedInHunt l).membership = s.membership ∧ (s.malformedInHunt l).replica = s.replica ∧
    (s.malformedInHunt l).zones = s.zones ∧ (s.malformedInHunt l).trip = s.trip ∧ (s.malformedInHunt l).life = s.life ∧
    (s.malformedInHunt l).supply = s.supply ∧ (s.malformedInHunt l).link = s.link ∧
    (s.malformedInHunt l).events = s.events ∧ (s.malformedInHunt l).freeIndex = s.freeIndex := by
  unfold State.malformedInHunt; split <;> simp

/-- A framing error changes the ring alone. -/
@[simp] theorem State.framingError_frame (s : State) (l : Lane) (chars : List Byte) (sp : Bool) :
    (s.framingError l chars sp).pending = s.pending ∧ (s.framingError l chars sp).powered = s.powered ∧
    (s.framingError l chars sp).now = s.now ∧ (s.framingError l chars sp).timer = s.timer ∧
    (s.framingError l chars sp).acquisition = s.acquisition ∧ (s.framingError l chars sp).table = s.table ∧
    (s.framingError l chars sp).membership = s.membership ∧ (s.framingError l chars sp).replica = s.replica ∧
    (s.framingError l chars sp).zones = s.zones ∧ (s.framingError l chars sp).trip = s.trip ∧
    (s.framingError l chars sp).life = s.life ∧ (s.framingError l chars sp).supply = s.supply ∧
    (s.framingError l chars sp).link = s.link ∧ (s.framingError l chars sp).events = s.events ∧
    (s.framingError l chars sp).freeIndex = s.freeIndex := by
  unfold State.framingError; split <;> simp

/-- A truncated frame changes the ring alone. -/
@[simp] theorem State.truncation_frame (s : State) (l : Lane) (chars : List Byte) :
    (s.truncation l chars).pending = s.pending ∧ (s.truncation l chars).powered = s.powered ∧
    (s.truncation l chars).now = s.now ∧ (s.truncation l chars).timer = s.timer ∧
    (s.truncation l chars).acquisition = s.acquisition ∧ (s.truncation l chars).table = s.table ∧
    (s.truncation l chars).membership = s.membership ∧ (s.truncation l chars).replica = s.replica ∧
    (s.truncation l chars).zones = s.zones ∧ (s.truncation l chars).trip = s.trip ∧ (s.truncation l chars).life = s.life ∧
    (s.truncation l chars).supply = s.supply ∧ (s.truncation l chars).link = s.link ∧
    (s.truncation l chars).events = s.events ∧ (s.truncation l chars).freeIndex = s.freeIndex := by
  unfold State.truncation; split <;> simp

/-- A line clear seen changes the ring alone. -/
@[simp] theorem State.lineClearSeen_frame (s : State) (l : Lane) (chars : List Byte) :
    (s.lineClearSeen l chars).pending = s.pending ∧ (s.lineClearSeen l chars).powered = s.powered ∧
    (s.lineClearSeen l chars).now = s.now ∧ (s.lineClearSeen l chars).timer = s.timer ∧
    (s.lineClearSeen l chars).acquisition = s.acquisition ∧ (s.lineClearSeen l chars).table = s.table ∧
    (s.lineClearSeen l chars).membership = s.membership ∧ (s.lineClearSeen l chars).replica = s.replica ∧
    (s.lineClearSeen l chars).zones = s.zones ∧ (s.lineClearSeen l chars).trip = s.trip ∧
    (s.lineClearSeen l chars).life = s.life ∧ (s.lineClearSeen l chars).supply = s.supply ∧
    (s.lineClearSeen l chars).link = s.link ∧ (s.lineClearSeen l chars).events = s.events ∧
    (s.lineClearSeen l chars).freeIndex = s.freeIndex := by
  unfold State.lineClearSeen; split <;> simp

/-- A line clear sent changes the ring alone. -/
@[simp] theorem State.lineClearEnd_frame (s : State) (l : Lane) :
    (s.lineClearEnd l).pending = s.pending ∧ (s.lineClearEnd l).powered = s.powered ∧ (s.lineClearEnd l).now = s.now ∧
    (s.lineClearEnd l).timer = s.timer ∧ (s.lineClearEnd l).acquisition = s.acquisition ∧
    (s.lineClearEnd l).table = s.table ∧ (s.lineClearEnd l).membership = s.membership ∧
    (s.lineClearEnd l).replica = s.replica ∧ (s.lineClearEnd l).zones = s.zones ∧ (s.lineClearEnd l).trip = s.trip ∧
    (s.lineClearEnd l).life = s.life ∧ (s.lineClearEnd l).supply = s.supply ∧ (s.lineClearEnd l).link = s.link ∧
    (s.lineClearEnd l).events = s.events ∧ (s.lineClearEnd l).freeIndex = s.freeIndex := by
  unfold State.lineClearEnd; split <;> simp

/-- The end of a gap changes the ring alone. -/
@[simp] theorem State.gapEnd_frame (s : State) (l : Lane) :
    (s.gapEnd l).pending = s.pending ∧ (s.gapEnd l).powered = s.powered ∧ (s.gapEnd l).now = s.now ∧
    (s.gapEnd l).timer = s.timer ∧ (s.gapEnd l).acquisition = s.acquisition ∧ (s.gapEnd l).table = s.table ∧
    (s.gapEnd l).membership = s.membership ∧ (s.gapEnd l).replica = s.replica ∧ (s.gapEnd l).zones = s.zones ∧
    (s.gapEnd l).trip = s.trip ∧ (s.gapEnd l).life = s.life ∧ (s.gapEnd l).supply = s.supply ∧ (s.gapEnd l).link = s.link ∧
    (s.gapEnd l).events = s.events ∧ (s.gapEnd l).freeIndex = s.freeIndex := by
  unfold State.gapEnd; split <;> simp

/-- A receiver that hunts again changes the ring alone. -/
@[simp] theorem State.backToHunt_frame (s : State) (l : Lane) :
    (s.backToHunt l).pending = s.pending ∧ (s.backToHunt l).powered = s.powered ∧ (s.backToHunt l).now = s.now ∧
    (s.backToHunt l).timer = s.timer ∧ (s.backToHunt l).acquisition = s.acquisition ∧ (s.backToHunt l).table = s.table ∧
    (s.backToHunt l).membership = s.membership ∧ (s.backToHunt l).replica = s.replica ∧ (s.backToHunt l).zones = s.zones ∧
    (s.backToHunt l).trip = s.trip ∧ (s.backToHunt l).life = s.life ∧ (s.backToHunt l).supply = s.supply ∧
    (s.backToHunt l).link = s.link ∧ (s.backToHunt l).events = s.events ∧ (s.backToHunt l).freeIndex = s.freeIndex := by
  unfold State.backToHunt; split <;> simp

/-- A transmission completed. -/
@[simp] theorem State.transmissionComplete_frame (s : State) (l : Lane) :
    (s.transmissionComplete l).pending = s.pending ∧ (s.transmissionComplete l).powered = s.powered ∧
    (s.transmissionComplete l).now = s.now ∧ (s.transmissionComplete l).timer = s.timer ∧
    (s.transmissionComplete l).acquisition = s.acquisition ∧ (s.transmissionComplete l).table = s.table ∧
    (s.transmissionComplete l).replica = s.replica ∧ (s.transmissionComplete l).zones = s.zones ∧
    (s.transmissionComplete l).supply = s.supply ∧ (s.transmissionComplete l).link = s.link := by
  unfold State.transmissionComplete; simp only []; repeat' split
  all_goals simp

/-- A partner's line clear changes the ring alone. -/
@[simp] theorem State.clearPartner_frame (s : State) (l : Lane) (old : LaneState) :
    (s.clearPartner l old).pending = s.pending ∧ (s.clearPartner l old).powered = s.powered ∧
    (s.clearPartner l old).now = s.now ∧ (s.clearPartner l old).timer = s.timer ∧
    (s.clearPartner l old).acquisition = s.acquisition ∧ (s.clearPartner l old).table = s.table ∧
    (s.clearPartner l old).membership = s.membership ∧ (s.clearPartner l old).replica = s.replica ∧
    (s.clearPartner l old).zones = s.zones ∧ (s.clearPartner l old).trip = s.trip ∧ (s.clearPartner l old).life = s.life ∧
    (s.clearPartner l old).supply = s.supply ∧ (s.clearPartner l old).link = s.link ∧
    (s.clearPartner l old).events = s.events ∧ (s.clearPartner l old).freeIndex = s.freeIndex := by
  unfold State.clearPartner; split <;> simp

/-- A check point changes the ring alone, but for its records. -/
@[simp] theorem State.checkHealth_frame (s : State) (c : Configuration) :
    (s.checkHealth c).pending = s.pending ∧ (s.checkHealth c).powered = s.powered ∧ (s.checkHealth c).now = s.now ∧
    (s.checkHealth c).timer = s.timer ∧ (s.checkHealth c).acquisition = s.acquisition ∧ (s.checkHealth c).table = s.table ∧
    (s.checkHealth c).membership = s.membership ∧ (s.checkHealth c).replica = s.replica ∧
    (s.checkHealth c).zones = s.zones ∧ (s.checkHealth c).trip = s.trip ∧ (s.checkHealth c).life = s.life ∧
    (s.checkHealth c).supply = s.supply ∧ (s.checkHealth c).link = s.link ∧ (s.checkHealth c).events = s.events ∧
    (s.checkHealth c).freeIndex = s.freeIndex := by
  simp [State.checkHealth]

/-- The Ring Interface at a close. -/
@[simp] theorem State.healthClose_frame (s : State) (c : Configuration) :
    (s.healthClose c).pending = s.pending ∧ (s.healthClose c).powered = s.powered ∧ (s.healthClose c).now = s.now ∧
    (s.healthClose c).timer = s.timer ∧ (s.healthClose c).acquisition = s.acquisition ∧ (s.healthClose c).table = s.table ∧
    (s.healthClose c).membership = s.membership ∧ (s.healthClose c).replica = s.replica ∧
    (s.healthClose c).zones = s.zones ∧ (s.healthClose c).trip = s.trip ∧ (s.healthClose c).life = s.life ∧
    (s.healthClose c).supply = s.supply ∧ (s.healthClose c).link = s.link ∧ (s.healthClose c).freeIndex = s.freeIndex := by
  simp [State.healthClose]

end Sys2Proof.Machine
end

