-- ==== Sys2Proof/Laws/CycleFrames.lean ====
section
/-! SUPPORT. Frames of the life cycle and the maintenance requests: for each operation, everything it leaves alone. As simp lemmas they read as one
rewriting rule for each part. -/

namespace Sys2Proof.Machine

/-- The entry to EXCLUDED. -/
@[simp] theorem State.exclude_frame (s : State) (r : StationReason) :
    (s.exclude r).pending = s.pending ∧ (s.exclude r).powered = s.powered ∧ (s.exclude r).now = s.now ∧
    (s.exclude r).timer = s.timer ∧ (s.exclude r).acquisition = s.acquisition ∧ (s.exclude r).table = s.table ∧
    (s.exclude r).replica = s.replica ∧ (s.exclude r).zones = s.zones ∧ (s.exclude r).supply = s.supply ∧
    (s.exclude r).link = s.link := by
  simp [State.exclude]

/-- The entry to PRESENT. -/
@[simp] theorem State.promote_frame (s : State) :
    (s.promote).pending = s.pending ∧ (s.promote).powered = s.powered ∧ (s.promote).now = s.now ∧
    (s.promote).timer = s.timer ∧ (s.promote).acquisition = s.acquisition ∧ (s.promote).ring = s.ring ∧
    (s.promote).table = s.table ∧ (s.promote).replica = s.replica ∧ (s.promote).zones = s.zones ∧
    (s.promote).supply = s.supply ∧ (s.promote).link = s.link := by
  simp [State.promote]

/-- The Controller at a close in JOINING. -/
@[simp] theorem State.joiningClose_frame (s : State) (c : Configuration) (row : Row) :
    (s.joiningClose c row).pending = s.pending ∧ (s.joiningClose c row).powered = s.powered ∧
    (s.joiningClose c row).now = s.now ∧ (s.joiningClose c row).timer = s.timer ∧
    (s.joiningClose c row).acquisition = s.acquisition ∧ (s.joiningClose c row).table = s.table ∧
    (s.joiningClose c row).replica = s.replica ∧ (s.joiningClose c row).zones = s.zones ∧
    (s.joiningClose c row).supply = s.supply ∧ (s.joiningClose c row).link = s.link := by
  unfold State.joiningClose; simp only []; repeat' split
  all_goals simp

/-- The Controller at a close in PRESENT. -/
@[simp] theorem State.presentClose_frame (s : State) (row : Row) :
    (s.presentClose row).pending = s.pending ∧ (s.presentClose row).powered = s.powered ∧ (s.presentClose row).now = s.now ∧
    (s.presentClose row).timer = s.timer ∧ (s.presentClose row).acquisition = s.acquisition ∧
    (s.presentClose row).table = s.table ∧ (s.presentClose row).replica = s.replica ∧ (s.presentClose row).zones = s.zones ∧
    (s.presentClose row).supply = s.supply ∧ (s.presentClose row).link = s.link := by
  unfold State.presentClose; dsimp only; repeat' split
  all_goals simp

/-- The Controller at a close. -/
@[simp] theorem State.controllerClose_frame (s : State) (c : Configuration) :
    (s.controllerClose c).pending = s.pending ∧ (s.controllerClose c).powered = s.powered ∧
    (s.controllerClose c).now = s.now ∧ (s.controllerClose c).timer = s.timer ∧
    (s.controllerClose c).acquisition = s.acquisition ∧ (s.controllerClose c).table = s.table ∧
    (s.controllerClose c).replica = s.replica ∧ (s.controllerClose c).zones = s.zones ∧
    (s.controllerClose c).supply = s.supply ∧ (s.controllerClose c).link = s.link := by
  unfold State.controllerClose; repeat' split
  all_goals simp

/-- An accepted LEAVE request. -/
@[simp] theorem State.acceptLeave_frame (s : State) :
    (s.acceptLeave).pending = s.pending ∧ (s.acceptLeave).powered = s.powered ∧ (s.acceptLeave).now = s.now ∧
    (s.acceptLeave).timer = s.timer ∧ (s.acceptLeave).acquisition = s.acquisition ∧ (s.acceptLeave).table = s.table ∧
    (s.acceptLeave).replica = s.replica ∧ (s.acceptLeave).zones = s.zones ∧ (s.acceptLeave).supply = s.supply ∧
    (s.acceptLeave).link = s.link := by
  simp [State.acceptLeave]

/-- The blocks stopped for HOLD. -/
@[simp] theorem State.stopForHold_frame (s : State) :
    (s.stopForHold).pending = s.pending ∧ (s.stopForHold).powered = s.powered ∧ (s.stopForHold).now = s.now ∧
    (s.stopForHold).table = s.table ∧ (s.stopForHold).membership = s.membership ∧ (s.stopForHold).replica = s.replica ∧
    (s.stopForHold).zones = s.zones ∧ (s.stopForHold).trip = s.trip ∧ (s.stopForHold).life = s.life ∧
    (s.stopForHold).link = s.link ∧ (s.stopForHold).events = s.events ∧ (s.stopForHold).freeIndex = s.freeIndex := by
  simp [State.stopForHold]

/-- The stage count and the capture lost on the way to HOLD: the timer keeps all but its capture, the Controller all but its
stage count. -/
@[simp] theorem State.abandonStart_frame (s : State) :
    (s.abandonStart).pending = s.pending ∧ (s.abandonStart).powered = s.powered ∧ (s.abandonStart).now = s.now ∧
    (s.abandonStart).acquisition = s.acquisition ∧ (s.abandonStart).ring = s.ring ∧ (s.abandonStart).table = s.table ∧
    (s.abandonStart).membership = s.membership ∧ (s.abandonStart).replica = s.replica ∧ (s.abandonStart).zones = s.zones ∧
    (s.abandonStart).trip = s.trip ∧ (s.abandonStart).supply = s.supply ∧ (s.abandonStart).link = s.link ∧
    (s.abandonStart).events = s.events ∧ (s.abandonStart).freeIndex = s.freeIndex ∧
    (s.abandonStart).life.state = s.life.state ∧ (s.abandonStart).life.config = s.life.config ∧
    (s.abandonStart).life.strap = s.life.strap ∧ (s.abandonStart).timer.mode = s.timer.mode ∧
    (s.abandonStart).timer.round = s.timer.round ∧ (s.abandonStart).timer.phase = s.timer.phase ∧
    (s.abandonStart).timer.roundLength = s.timer.roundLength ∧ (s.abandonStart).timer.history = s.timer.history := by
  unfold State.abandonStart; split <;> simp

/-- The entry to HOLD. -/
@[simp] theorem State.enterHold_frame (s : State) :
    (s.enterHold).pending = s.pending ∧ (s.enterHold).powered = s.powered ∧ (s.enterHold).now = s.now ∧
    (s.enterHold).table = s.table ∧ (s.enterHold).replica = s.replica ∧ (s.enterHold).zones = s.zones ∧
    (s.enterHold).link = s.link := by
  unfold State.enterHold; simp only []; split <;> simp

/-- An image taken into force. -/
@[simp] theorem State.loadImage_frame (s : State) (c : Configuration) (k : Round) :
    (s.loadImage c k).pending = s.pending ∧ (s.loadImage c k).powered = s.powered ∧ (s.loadImage c k).now = s.now ∧
    (s.loadImage c k).acquisition = s.acquisition ∧ (s.loadImage c k).table = s.table ∧
    (s.loadImage c k).replica = s.replica ∧ (s.loadImage c k).trip = s.trip ∧ (s.loadImage c k).supply = s.supply ∧
    (s.loadImage c k).link = s.link ∧ (s.loadImage c k).events = s.events ∧ (s.loadImage c k).freeIndex = s.freeIndex := by
  simp [State.loadImage]

/-- The entry to STABILISE. -/
@[simp] theorem State.enterStabilise_frame (s : State) (b : List Byte) (x : BayLines) :
    (s.enterStabilise b x).pending = s.pending ∧ (s.enterStabilise b x).powered = s.powered ∧
    (s.enterStabilise b x).now = s.now ∧ (s.enterStabilise b x).table = s.table ∧
    (s.enterStabilise b x).replica = s.replica ∧ (s.enterStabilise b x).supply = s.supply ∧
    (s.enterStabilise b x).link = s.link := by
  simp [State.enterStabilise]

/-- The entry to CONFIG_FAULT. -/
@[simp] theorem State.enterConfigFault_frame (s : State) (b : List Byte) (r : CheckResult) (x : BayLines) :
    (s.enterConfigFault b r x).pending = s.pending ∧ (s.enterConfigFault b r x).powered = s.powered ∧
    (s.enterConfigFault b r x).now = s.now ∧ (s.enterConfigFault b r x).ring = s.ring ∧
    (s.enterConfigFault b r x).table = s.table ∧ (s.enterConfigFault b r x).replica = s.replica ∧
    (s.enterConfigFault b r x).zones = s.zones ∧ (s.enterConfigFault b r x).supply = s.supply ∧
    (s.enterConfigFault b r x).link = s.link := by
  simp [State.enterConfigFault]

/-- The end of the configuration read. -/
@[simp] theorem State.configReadEnd_frame (s : State) (b : List Byte) (x : BayLines) :
    (s.configReadEnd b x).pending = s.pending ∧ (s.configReadEnd b x).powered = s.powered ∧
    (s.configReadEnd b x).now = s.now ∧ (s.configReadEnd b x).table = s.table ∧ (s.configReadEnd b x).replica = s.replica ∧
    (s.configReadEnd b x).supply = s.supply ∧ (s.configReadEnd b x).link = s.link := by
  unfold State.configReadEnd; repeat' split
  all_goals simp

/-- A reset. -/
@[simp] theorem State.resetBy_frame (s : State) (cause : ResetCause) (straps : Straps) :
    (s.resetBy cause straps).pending = s.pending ∧ (s.resetBy cause straps).now = s.now ∧
    (s.resetBy cause straps).freeIndex = s.freeIndex := by
  simp [State.resetBy]

/-- A LOW report. -/
@[simp] theorem State.supplyLow_frame (s : State) (mv : Nat) :
    (s.supplyLow mv).pending = s.pending ∧ (s.supplyLow mv).powered = s.powered ∧ (s.supplyLow mv).now = s.now ∧
    (s.supplyLow mv).table = s.table ∧ (s.supplyLow mv).replica = s.replica ∧ (s.supplyLow mv).zones = s.zones ∧
    (s.supplyLow mv).link = s.link := by
  unfold State.supplyLow; split <;> simp

/-- A request taken. -/
@[simp] theorem State.take_frame (s : State) (k : Byte) (p : List Byte) :
    (s.take k p).pending = s.pending ∧ (s.take k p).powered = s.powered ∧ (s.take k p).now = s.now ∧
    (s.take k p).timer = s.timer ∧ (s.take k p).acquisition = s.acquisition ∧ (s.take k p).table = s.table ∧
    (s.take k p).replica = s.replica ∧ (s.take k p).zones = s.zones ∧ (s.take k p).supply = s.supply := by
  unfold State.take State.takeEvents State.takeAckTrip State.takeRelease State.judgeRelease State.takeLeave State.takeRestart
  simp only []; repeat' split
  all_goals simp

/-- A request judged. -/
@[simp] theorem State.judge_frame (s : State) (bs : List Byte) :
    (s.judge bs).pending = s.pending ∧ (s.judge bs).powered = s.powered ∧ (s.judge bs).now = s.now ∧
    (s.judge bs).timer = s.timer ∧ (s.judge bs).acquisition = s.acquisition ∧ (s.judge bs).table = s.table ∧
    (s.judge bs).replica = s.replica ∧ (s.judge bs).zones = s.zones ∧ (s.judge bs).supply = s.supply := by
  unfold State.judge; repeat' split
  all_goals simp

/-- Characters of a request. -/
@[simp] theorem State.requestChars_frame (s : State) (p : Byte → Bool) (crc : Bool) (chars : List Byte) :
    (s.requestChars p crc chars).pending = s.pending ∧ (s.requestChars p crc chars).powered = s.powered ∧
    (s.requestChars p crc chars).now = s.now ∧ (s.requestChars p crc chars).timer = s.timer ∧
    (s.requestChars p crc chars).acquisition = s.acquisition ∧ (s.requestChars p crc chars).table = s.table ∧
    (s.requestChars p crc chars).replica = s.replica ∧ (s.requestChars p crc chars).zones = s.zones ∧
    (s.requestChars p crc chars).supply = s.supply := by
  unfold State.requestChars; repeat' split
  all_goals simp

/-- A malformed character on the maintenance line. -/
@[simp] theorem State.mlFramingError_frame (s : State) (chars : List Byte) :
    (s.mlFramingError chars).pending = s.pending ∧ (s.mlFramingError chars).powered = s.powered ∧
    (s.mlFramingError chars).now = s.now ∧ (s.mlFramingError chars).timer = s.timer ∧
    (s.mlFramingError chars).acquisition = s.acquisition ∧ (s.mlFramingError chars).ring = s.ring ∧
    (s.mlFramingError chars).table = s.table ∧ (s.mlFramingError chars).membership = s.membership ∧
    (s.mlFramingError chars).replica = s.replica ∧ (s.mlFramingError chars).zones = s.zones ∧
    (s.mlFramingError chars).trip = s.trip ∧ (s.mlFramingError chars).life = s.life ∧
    (s.mlFramingError chars).supply = s.supply ∧ (s.mlFramingError chars).events = s.events ∧
    (s.mlFramingError chars).freeIndex = s.freeIndex := by
  unfold State.mlFramingError; repeat' split
  all_goals simp

/-- A length byte above 250. -/
@[simp] theorem State.lengthError_frame (s : State) (chars : List Byte) :
    (s.lengthError chars).pending = s.pending ∧ (s.lengthError chars).powered = s.powered ∧
    (s.lengthError chars).now = s.now ∧ (s.lengthError chars).timer = s.timer ∧
    (s.lengthError chars).acquisition = s.acquisition ∧ (s.lengthError chars).ring = s.ring ∧
    (s.lengthError chars).table = s.table ∧ (s.lengthError chars).membership = s.membership ∧
    (s.lengthError chars).replica = s.replica ∧ (s.lengthError chars).zones = s.zones ∧
    (s.lengthError chars).trip = s.trip ∧ (s.lengthError chars).life = s.life ∧ (s.lengthError chars).supply = s.supply ∧
    (s.lengthError chars).events = s.events ∧ (s.lengthError chars).freeIndex = s.freeIndex := by
  unfold State.lengthError; repeat' split
  all_goals simp

/-- A truncated request. -/
@[simp] theorem State.requestTruncated_frame (s : State) (chars : List Byte) :
    (s.requestTruncated chars).pending = s.pending ∧ (s.requestTruncated chars).powered = s.powered ∧
    (s.requestTruncated chars).now = s.now ∧ (s.requestTruncated chars).timer = s.timer ∧
    (s.requestTruncated chars).acquisition = s.acquisition ∧ (s.requestTruncated chars).ring = s.ring ∧
    (s.requestTruncated chars).table = s.table ∧ (s.requestTruncated chars).membership = s.membership ∧
    (s.requestTruncated chars).replica = s.replica ∧ (s.requestTruncated chars).zones = s.zones ∧
    (s.requestTruncated chars).trip = s.trip ∧ (s.requestTruncated chars).life = s.life ∧
    (s.requestTruncated chars).supply = s.supply ∧ (s.requestTruncated chars).events = s.events ∧
    (s.requestTruncated chars).freeIndex = s.freeIndex := by
  unfold State.requestTruncated; repeat' split
  all_goals simp

/-- The end of SKIPPING. -/
@[simp] theorem State.skippingEnd_frame (s : State) :
    (s.skippingEnd).pending = s.pending ∧ (s.skippingEnd).powered = s.powered ∧ (s.skippingEnd).now = s.now ∧
    (s.skippingEnd).timer = s.timer ∧ (s.skippingEnd).acquisition = s.acquisition ∧ (s.skippingEnd).ring = s.ring ∧
    (s.skippingEnd).table = s.table ∧ (s.skippingEnd).membership = s.membership ∧ (s.skippingEnd).replica = s.replica ∧
    (s.skippingEnd).zones = s.zones ∧ (s.skippingEnd).trip = s.trip ∧ (s.skippingEnd).life = s.life ∧
    (s.skippingEnd).supply = s.supply ∧ (s.skippingEnd).events = s.events ∧ (s.skippingEnd).freeIndex = s.freeIndex := by
  unfold State.skippingEnd; split <;> simp

end Sys2Proof.Machine
end

