-- ==== Sys2Proof/Laws/Events.lean ====
section
/-! SUPPORT. What offering records does to the Event List: what it held stays, and a record offered while there is room joins it. -/

namespace Sys2Proof.Machine

/-- The record that a draft becomes when it is offered. -/
abbrev State.asRecord (s : State) (d : Draft) : EventRecord :=
  { kind := d.kind, round := s.timer.round, subject := d.subject, detail := d.detail }

/-- An offer adds a record at most. -/
theorem EventList.offer_length (e : EventList) (r : EventRecord) : (e.offer r).records.length ≤ e.records.length + 1 := by
  unfold EventList.offer; split <;> simp

/-- What the list holds stays. -/
theorem EventList.mem_offer {e : EventList} {x : EventRecord} (r : EventRecord) (h : x ∈ e.records) :
    x ∈ (e.offer r).records := by
  unfold EventList.offer; split <;> simp [h]

/-- A record offered while there is room joins the list. -/
theorem EventList.offer_mem {e : EventList} (r : EventRecord) (h : e.records.length < 64) : r ∈ (e.offer r).records := by
  simp [EventList.offer, h]

@[simp] theorem State.offerAll_nil (s : State) : s.offerAll [] = s := rfl

@[simp] theorem State.offerAll_cons (s : State) (d : Draft) (ds : List Draft) : s.offerAll (d :: ds) = (s.offer d).offerAll ds :=
  rfl

theorem State.offerAll_append (s : State) (ds es : List Draft) : s.offerAll (ds ++ es) = (s.offerAll ds).offerAll es :=
  List.foldl_append ..

/-- What the list holds stays. -/
theorem State.mem_offerAll {s : State} {x : EventRecord} (ds : List Draft) (h : x ∈ s.events.records) :
    x ∈ (s.offerAll ds).events.records := by
  induction ds generalizing s with
  | nil => exact h
  | cons d ds ih => exact ih (s := s.offer d) (by rw [State.offer_events]; exact EventList.mem_offer _ h)

/-- With room for all of them, every record offered joins the list. -/
theorem State.offerAll_mem {s : State} {d : Draft} (ds : List Draft) (h : s.events.records.length + ds.length ≤ 64) (hd : d ∈ ds) :
    s.asRecord d ∈ (s.offerAll ds).events.records := by
  induction ds generalizing s with
  | nil => cases hd
  | cons x ds ih =>
    rw [State.offerAll_cons]
    rw [List.length_cons] at h
    rcases List.mem_cons.mp hd with rfl | hd
    · exact State.mem_offerAll ds (by rw [State.offer_events]; exact EventList.offer_mem _ (by omega))
    · have hl := EventList.offer_length s.events (s.asRecord x)
      exact ih (s := s.offer x) (by rw [State.offer_events]; simp only [State.asRecord] at hl; omega) hd

/-- Any order of a list holds the same items. -/
theorem anyOrder_perm {α : Type} (choice : Nat → Nat) (l : List α) : (anyOrder choice l).Perm l := by
  induction l with
  | nil => exact .nil
  | cons x xs ih =>
    have hlen : (anyOrder choice xs).length = xs.length := ih.length_eq
    refine (List.perm_insertIdx _ _ ?_).trans (ih.cons x)
    rw [hlen]
    exact Nat.lt_succ_iff.mp (Nat.mod_lt _ (Nat.succ_pos _))

/-- The records that groups come to, in whatever order they are taken. -/
theorem State.offerGroups_offerAll (s : State) (gs : List (List Draft)) :
    ∃ ds, ds.Perm gs.flatten ∧ (s.offerGroups gs).events = (s.offerAll ds).events := by
  have hf : (gs.filter (fun g => !g.isEmpty)).flatten = gs.flatten := by
    induction gs with
    | nil => rfl
    | cons g gs ih => cases g <;> simp_all
  unfold State.offerGroups
  split
  · rename_i h; exact ⟨[], by rw [← hf, h]; exact .nil, rfl⟩
  · rename_i g h; exact ⟨g, by rw [← hf, h]; simp, rfl⟩
  · rename_i h _ _
    exact ⟨_, by rw [← hf]; exact ((anyOrder_perm _ _).flatten), rfl⟩

/-- With room for all of them, every record of every group joins the list. -/
theorem State.offerGroups_mem {s : State} {d : Draft} (gs : List (List Draft))
    (h : s.events.records.length + gs.flatten.length ≤ 64) (hd : d ∈ gs.flatten) :
    s.asRecord d ∈ (s.offerGroups gs).events.records := by
  obtain ⟨ds, hp, he⟩ := s.offerGroups_offerAll gs
  rw [he]
  exact State.offerAll_mem ds (by rw [hp.length_eq]; exact h) (hp.mem_iff.mpr hd)

/-- What the list holds stays. -/
theorem State.mem_offerGroups {s : State} {x : EventRecord} (gs : List (List Draft)) (h : x ∈ s.events.records) :
    x ∈ (s.offerGroups gs).events.records := by
  obtain ⟨ds, _, he⟩ := s.offerGroups_offerAll gs
  rw [he]
  exact State.mem_offerAll ds h

end Sys2Proof.Machine
end

