-- ==== Sys2Proof/Laws/MarksFrames.lean ====
section
/-! SUPPORT. Frames of marks and close points: for each operation, everything it leaves alone. As simp lemmas they read as one
rewriting rule for each part. -/

namespace Sys2Proof.Machine

/-- A bare mark. -/
@[simp] theorem State.bareMark_frame (s : State) (x : BayLines) :
    (s.bareMark x).pending = s.pending ∧ (s.bareMark x).powered = s.powered ∧ (s.bareMark x).ring = s.ring ∧
    (s.bareMark x).table = s.table ∧ (s.bareMark x).membership = s.membership ∧ (s.bareMark x).replica = s.replica ∧
    (s.bareMark x).zones = s.zones ∧ (s.bareMark x).trip = s.trip ∧ (s.bareMark x).life = s.life ∧
    (s.bareMark x).supply = s.supply ∧ (s.bareMark x).events = s.events ∧ (s.bareMark x).freeIndex = s.freeIndex := by
  unfold State.bareMark State.passTo; split <;> simp

/-- What every local mark does. -/
@[simp] theorem State.localMarkBlocks_frame (s : State) (c : Configuration) (x : BayLines) :
    (s.localMarkBlocks c x).pending = s.pending ∧ (s.localMarkBlocks c x).powered = s.powered ∧
    (s.localMarkBlocks c x).now = s.now ∧ (s.localMarkBlocks c x).table = s.table ∧
    (s.localMarkBlocks c x).membership = s.membership ∧ (s.localMarkBlocks c x).replica = s.replica ∧
    (s.localMarkBlocks c x).zones = s.zones ∧ (s.localMarkBlocks c x).trip = s.trip ∧
    (s.localMarkBlocks c x).supply = s.supply ∧ (s.localMarkBlocks c x).link = s.link ∧
    (s.localMarkBlocks c x).events = s.events ∧ (s.localMarkBlocks c x).freeIndex = s.freeIndex := by
  simp [State.localMarkBlocks]

/-- The 64th local mark of STABILISE. -/
@[simp] theorem State.settle_frame (s : State) (c : Configuration) (x : BayLines) :
    (s.settle c x).pending = s.pending ∧ (s.settle c x).powered = s.powered ∧ (s.settle c x).now = s.now ∧
    (s.settle c x).table = s.table ∧ (s.settle c x).replica = s.replica ∧ (s.settle c x).zones = s.zones ∧
    (s.settle c x).link = s.link := by
  simp [State.settle]

/-- The start of own numbering. -/
@[simp] theorem State.startNumbering_frame (s : State) (c : Configuration) (x : BayLines) :
    (s.startNumbering c x).pending = s.pending ∧ (s.startNumbering c x).powered = s.powered ∧
    (s.startNumbering c x).now = s.now ∧ (s.startNumbering c x).replica = s.replica ∧
    (s.startNumbering c x).zones = s.zones ∧ (s.startNumbering c x).supply = s.supply ∧
    (s.startNumbering c x).link = s.link := by
  simp [State.startNumbering]

/-- A local mark. -/
@[simp] theorem State.localMark_frame (s : State) (x : BayLines) :
    (s.localMark x).pending = s.pending ∧ (s.localMark x).powered = s.powered ∧ (s.localMark x).replica = s.replica ∧
    (s.localMark x).zones = s.zones := by
  unfold State.localMark State.passTo; simp only []; repeat' split
  all_goals simp

/-- A round mark. -/
@[simp] theorem State.roundMark_frame (s : State) (x : BayLines) :
    (s.roundMark x).pending = s.pending ∧ (s.roundMark x).powered = s.powered ∧ (s.roundMark x).ring = s.ring ∧
    (s.roundMark x).table = s.table ∧ (s.roundMark x).replica = s.replica ∧ (s.roundMark x).zones = s.zones ∧
    (s.roundMark x).supply = s.supply := by
  unfold State.roundMark State.passTo; simp only []; repeat' split
  all_goals simp

/-- The next mark. -/
@[simp] theorem State.nextMark_frame (s : State) (x : BayLines) :
    (s.nextMark x).pending = s.pending ∧ (s.nextMark x).powered = s.powered ∧ (s.nextMark x).replica = s.replica ∧
    (s.nextMark x).zones = s.zones := by
  unfold State.nextMark; split <;> simp

/-- The Round Table at a close point. -/
@[simp] theorem State.rowClosed_frame (s : State) (c : Configuration) :
    (s.rowClosed c).pending = s.pending ∧ (s.rowClosed c).powered = s.powered ∧
    (s.rowClosed c).acquisition = s.acquisition ∧ (s.rowClosed c).ring = s.ring ∧
    (s.rowClosed c).membership = s.membership ∧ (s.rowClosed c).replica = s.replica ∧ (s.rowClosed c).zones = s.zones ∧
    (s.rowClosed c).trip = s.trip ∧ (s.rowClosed c).life = s.life ∧ (s.rowClosed c).supply = s.supply ∧
    (s.rowClosed c).events = s.events ∧ (s.rowClosed c).freeIndex = s.freeIndex := by
  simp [State.rowClosed, State.passTo]

/-- One block taking a close. -/
@[simp] theorem closeBlock_frame (c : Configuration) (s : State) (b : CloseBlock) :
    (closeBlock c s b).pending = s.pending ∧ (closeBlock c s b).powered = s.powered ∧ (closeBlock c s b).now = s.now ∧ (closeBlock c s b).acquisition = s.acquisition ∧ (closeBlock c s b).table = s.table ∧ (closeBlock c s b).supply = s.supply ∧ (closeBlock c s b).link = s.link := by
  cases b <;> simp [closeBlock]

/-- Several blocks taking a close. -/
@[simp] theorem closeBlocks_frame (c : Configuration) (s : State) (bs : List CloseBlock) :
    (bs.foldl (closeBlock c) s).pending = s.pending ∧ (bs.foldl (closeBlock c) s).powered = s.powered ∧ (bs.foldl (closeBlock c) s).now = s.now ∧ (bs.foldl (closeBlock c) s).acquisition = s.acquisition ∧ (bs.foldl (closeBlock c) s).table = s.table ∧ (bs.foldl (closeBlock c) s).supply = s.supply ∧ (bs.foldl (closeBlock c) s).link = s.link := by
  induction bs generalizing s with
  | nil => simp
  | cons b bs ih => simpa using ih (closeBlock c s b)

/-- A close point part way. -/
@[simp] theorem State.closeThrough_frame (s : State) (c : Configuration) (bs : List CloseBlock) :
    (s.closeThrough c bs).pending = s.pending ∧ (s.closeThrough c bs).powered = s.powered ∧ (s.closeThrough c bs).acquisition = s.acquisition ∧ (s.closeThrough c bs).supply = s.supply := by
  simp [State.closeThrough]

/-- A close point. -/
@[simp] theorem State.closePoint_frame (s : State) (o : CloseOrder) :
    (s.closePoint o).pending = s.pending ∧ (s.closePoint o).powered = s.powered ∧ (s.closePoint o).acquisition = s.acquisition ∧ (s.closePoint o).supply = s.supply := by
  unfold State.closePoint; repeat' split
  all_goals simp

end Sys2Proof.Machine
end

