-- ==== Sys2Proof/Laws/Moves.lean ====
section
/-! SUPPORT. What a change of station state does to the parts it touches, and what carries one. -/

namespace Sys2Proof.Machine

section
variable (s : State) (new : StationState)

@[simp] theorem State.moveTo_state : (s.moveTo new).life.state = new := rfl
@[simp] theorem State.moveTo_config : (s.moveTo new).life.config = s.life.config := rfl
@[simp] theorem State.moveTo_trip : (s.moveTo new).trip = tripExit s.life.state new s.trip := rfl
@[simp] theorem State.moveTo_entries : (s.moveTo new).membership.entries =
    s.membership.entries.map (fun e => if e.station == s.ownNumber then { e with state := ownEntryState new } else e) := rfl

@[simp] theorem State.enter_state (gs : List (List Draft)) : (s.enter new gs).life.state = new := by simp [State.enter]
@[simp] theorem State.enter_config (gs : List (List Draft)) : (s.enter new gs).life.config = s.life.config := by
  simp [State.enter]
@[simp] theorem State.enter_trip (gs : List (List Draft)) : (s.enter new gs).trip = tripExit s.life.state new s.trip := by
  simp [State.enter]
@[simp] theorem State.enter_membership (gs : List (List Draft)) :
    (s.enter new gs).membership = (s.moveTo new).membership := by simp [State.enter]

@[simp] theorem State.transition_state (r : StationReason) (more : List Byte) :
    (s.transition new r more).life.state = new := by simp [State.transition]
@[simp] theorem State.transition_config (r : StationReason) (more : List Byte) :
    (s.transition new r more).life.config = s.life.config := by simp [State.transition]
@[simp] theorem State.transition_trip (r : StationReason) (more : List Byte) :
    (s.transition new r more).trip = tripExit s.life.state new s.trip := by simp [State.transition]
@[simp] theorem State.transition_membership (r : StationReason) (more : List Byte) :
    (s.transition new r more).membership = (s.moveTo new).membership := by simp [State.transition]
end

/-- The station states in which the ring carries the station's own frames on after LEAVING. -/
theorem State.report_cases (s : State) (sent : Bool) :
    ((s.report sent).life.state = s.life.state ∧ (s.report sent).trip = s.trip ∧
      (s.report sent).membership = s.membership ∧ (s.report sent).events = s.events ∧ (s.report sent).freeIndex = s.freeIndex) ∨
    (s.life.state = .leaving ∧ (s.report sent).life.state = .out ∧
      (s.report sent).trip = tripExit .leaving .out s.trip ∧
      (s.report sent).membership = (s.moveTo .out).membership) := by
  unfold State.report
  split
  · rename_i h
    dsimp only
    split
    · right; exact ⟨h, by simp, by simp [h], by rw [State.transition_membership]; rfl⟩
    · left; simp
  · left; simp

@[simp] theorem State.report_config (s : State) (sent : Bool) : (s.report sent).life.config = s.life.config := by
  unfold State.report
  split
  · dsimp only; split <;> simp
  · rfl

@[simp] theorem State.enqueueLeave_config (s : State) (l : Lane) (f : QueuedFrame) :
    (s.enqueueLeave l f).life.config = s.life.config := by
  unfold State.enqueueLeave; split <;> simp

@[simp] theorem State.exclude_state (s : State) (r : StationReason) : (s.exclude r).life.state = .excluded := by
  simp [State.exclude]
@[simp] theorem State.exclude_config (s : State) (r : StationReason) : (s.exclude r).life.config = s.life.config := by
  simp [State.exclude]
@[simp] theorem State.exclude_trip (s : State) (r : StationReason) :
    (s.exclude r).trip = tripExit s.life.state .excluded s.trip := by simp [State.exclude]

@[simp] theorem State.promote_state (s : State) : s.promote.life.state = .present := by simp [State.promote]
@[simp] theorem State.promote_config (s : State) : s.promote.life.config = s.life.config := by simp [State.promote]
@[simp] theorem State.promote_trip (s : State) : s.promote.trip = tripExit s.life.state .present s.trip := by
  simp [State.promote]

/-- What the Controller can do at a close: counts alone, then perhaps an exclusion from JOINING or PRESENT or a promotion
from JOINING. -/
theorem State.controllerClose_cases (s : State) (c : Configuration) :
    ∃ x : LifeCycle, x.state = s.life.state ∧ x.config = s.life.config ∧
      (s.controllerClose c = { s with life := x } ∨
       (s.life.state.contributing = true ∧ ∃ r, s.controllerClose c = ({ s with life := x } : State).exclude r) ∨
       (s.life.state = .joining ∧ s.controllerClose c = ({ s with life := x } : State).promote)) := by
  unfold State.controllerClose
  split
  · exact ⟨s.life, rfl, rfl, .inl rfl⟩
  · rename_i row _
    split
    · rename_i h
      refine ⟨s.life.joiningCounts c row, rfl, rfl, ?_⟩
      unfold State.joiningClose
      dsimp only
      split
      · exact .inr (.inl ⟨by simp [h, StationState.contributing], _, rfl⟩)
      · split
        · exact .inr (.inl ⟨by simp [h, StationState.contributing], _, rfl⟩)
        · split
          · exact .inr (.inr ⟨h, rfl⟩)
          · exact .inl rfl
    · rename_i h
      refine ⟨{ s.life with clashCount := if row.clash then bump 3 s.life.clashCount else 0 }, rfl, rfl, ?_⟩
      unfold State.presentClose
      dsimp only
      generalize (if row.clash = true then bump 3 s.life.clashCount else 0) = n
      split
      · exact .inr (.inl ⟨by simp [h, StationState.contributing], _, rfl⟩)
      · exact .inl rfl
    · exact ⟨s.life, rfl, rfl, .inl rfl⟩

@[simp] theorem State.controllerClose_config (s : State) (c : Configuration) :
    (s.controllerClose c).life.config = s.life.config := by
  obtain ⟨x, _, h2, h | ⟨_, r, h⟩ | ⟨_, h⟩⟩ := s.controllerClose_cases c <;> rw [h] <;> simp [h2]

/-! ## What a scan's completion does to the Controller and the Trip Unit -/

@[simp] theorem State.ownBuild_life (s : State) (c : Configuration) (k : Round) (i : Tri Int) (q : Quality) (p : Positions) :
    (s.ownBuild c k i q p).life = { s.life with pendingRelease := ZoneSet.empty } := by
  unfold State.ownBuild; dsimp only; split <;> simp

@[simp] theorem State.handTrip_trip (s : State) (c : Configuration) (i : Tri Int) (q : Quality) :
    (s.handTrip c i q).trip = s.trip.appendPeak c.w { currents := i, quality := q } := rfl

/-- A scan's completion leaves the Controller as it is, but for the pending release set. -/
theorem State.scanComplete_life (s : State) (n : ScanCounts) :
    (s.scanComplete n).life = s.life ∨ (s.scanComplete n).life = { s.life with pendingRelease := ZoneSet.empty } := by
  unfold State.scanComplete
  split
  · exact .inl rfl
  · dsimp only
    unfold State.handOn
    repeat' split
    all_goals simp

@[simp] theorem State.scanComplete_state (s : State) (n : ScanCounts) : (s.scanComplete n).life.state = s.life.state := by
  rcases s.scanComplete_life n with h | h <;> rw [h]

@[simp] theorem State.scanComplete_config (s : State) (n : ScanCounts) : (s.scanComplete n).life.config = s.life.config := by
  rcases s.scanComplete_life n with h | h <;> rw [h]

/-- A scan's completion leaves the Trip Unit as it is, or appends one entry to the peak history (R137). -/
theorem State.scanComplete_trip (s : State) (n : ScanCounts) :
    (s.scanComplete n).trip = s.trip ∨
    ∃ c e, s.life.config = some c ∧ (s.scanComplete n).trip = s.trip.appendPeak c.w e := by
  unfold State.scanComplete
  split
  · exact .inl rfl
  · dsimp only
    split
    · rename_i c hc
      unfold State.handOn
      repeat' split
      all_goals first
        | (left; simp; done)
        | exact .inr ⟨c, { currents := scanCurrents (some c) n, quality := (s.scanUnit n).acquisition.quality }, hc, by simp⟩
    · exact .inl (by simp)

end Sys2Proof.Machine
end

