-- ==== Sys2Proof/Laws/Exec.lean ====
section
/-! SUPPORT. Every command as a chain of a few operations: a property that those operations keep is kept by every command
and by every step. -/

namespace Sys2Proof.Machine

/-- One block taking a close leaves the configuration alone. -/
@[simp] theorem closeBlock_config (c : Configuration) (s : State) (b : CloseBlock) :
    (closeBlock c s b).life.config = s.life.config := by
  cases b <;> simp [closeBlock]

/-- Several blocks taking a close leave the configuration alone. -/
@[simp] theorem closeBlocks_config (c : Configuration) (s : State) (bs : List CloseBlock) :
    (bs.foldl (closeBlock c) s).life.config = s.life.config := by
  induction bs generalizing s with
  | nil => rfl
  | cons b bs ih => simpa using ih (closeBlock c s b)

/-- What it takes for a property to be kept by every command. -/
structure Kept (P : State → Prop) : Prop where
  power : ∀ s b, P s → P { s with powered := b }
  reset : ∀ s cause straps, P s → P (s.resetBy cause straps)
  readEnd : ∀ s b x, P s → P (s.configReadEnd b x)
  hold : ∀ s, P s → P s.enterHold
  bareMark : ∀ s x, P s → P (s.bareMark x)
  localMark : ∀ s x, P s → P (s.localMark x)
  roundMark : ∀ s x, P s → P (s.roundMark x)
  rowClosed : ∀ s c, s.life.config = some c → s.closeDue = true → P s → P (s.rowClosed c)
  block : ∀ s c b, s.life.config = some c → P s → P (closeBlock c s b)
  scan : ∀ s n, P s → P (s.scanComplete n)
  contrib : ∀ s l bs, P s → P (s.frameChars l leadContrib 24 bs)
  leaveFrame : ∀ s l bs, P s → P (s.frameChars l leadLeave 12 bs)
  unknownLead : ∀ s l c, P s → P (s.unknownLead l c)
  malformed : ∀ s l, P s → P (s.malformedInHunt l)
  backToHunt : ∀ s l, P s → P (s.backToHunt l)
  framing : ∀ s l bs sp, P s → P (s.framingError l bs sp)
  truncation : ∀ s l bs, P s → P (s.truncation l bs)
  clearSeen : ∀ s l bs, P s → P (s.lineClearSeen l bs)
  sent : ∀ s l, P s → P (s.transmissionComplete l)
  clearEnd : ∀ s l, P s → P (s.lineClearEnd l)
  gapEnd : ∀ s l, P s → P (s.gapEnd l)
  link : ∀ s k, P s → P { s with link := k }
  ack : ∀ s, P s → P { s with trip := { s.trip with latched := false } }
  release : ∀ s z, P s → P { s with life := { s.life with pendingRelease := z } }
  leave : ∀ s, s.life.state.contributing = true → P s → P s.acceptLeave
  read : ∀ s m, P s → P { s with events := { s.events with records := s.events.records.drop m } }

variable {P : State → Prop}

theorem Kept.respond (h : Kept P) (s : State) (k : Byte) (st : ReplyStatus) (more : List Byte) (x : OnComplete) (hs : P s) :
    P (s.respond k st more x) := h.link s _ hs

theorem Kept.reply (h : Kept P) (s : State) (k : Byte) (st : ReplyStatus) (more : List Byte) (hs : P s) :
    P (s.reply k st more) := h.link s _ hs

theorem Kept.take (h : Kept P) (s : State) (k : Byte) (p : List Byte) (hs : P s) : P (s.take k p) := by
  unfold State.take
  repeat' split
  · exact h.reply _ _ _ _ hs
  · exact h.reply _ _ _ _ hs
  · exact h.reply _ _ _ _ hs
  · exact h.respond _ _ _ _ _ hs
  · unfold State.takeAckTrip; split
    · exact h.reply _ _ _ _ hs
    · exact h.reply _ _ _ _ (h.ack s hs)
  · unfold State.takeRelease; repeat' split
    · unfold State.judgeRelease; split
      · exact h.reply _ _ _ _ hs
      · exact h.reply _ _ _ _ (h.release s _ hs)
    · exact h.reply _ _ _ _ hs
    · exact h.reply _ _ _ _ hs
  · unfold State.takeLeave; repeat' split
    · rename_i h1; exact h.reply _ _ _ _ (h.leave s (by simp [h1, StationState.contributing]) hs)
    · rename_i h1 _; exact h.reply _ _ _ _ (h.leave s (by simp [h1, StationState.contributing]) hs)
    · exact h.reply _ _ _ _ hs
    · exact h.reply _ _ _ _ hs
  · unfold State.takeRestart; split
    · exact h.reply _ _ _ _ hs
    · exact h.respond _ _ _ _ _ hs

theorem Kept.requestChars (h : Kept P) (s : State) (p : Byte → Bool) (crc : Bool) (bs : List Byte) (hs : P s) :
    P (s.requestChars p crc bs) := by
  unfold State.requestChars State.judge
  repeat' split
  · exact hs
  · exact h.link _ _ (h.link _ _ hs)
  · exact h.link _ _ (h.link _ _ hs)
  · exact h.respond _ _ _ _ _ (h.link _ _ hs)
  · exact h.reply _ _ _ _ (h.link _ _ hs)
  · exact h.take _ _ _ (h.link _ _ hs)
  · exact hs
  · exact h.link _ _ hs
  · exact hs
  · exact hs

theorem Kept.blocks (h : Kept P) (c : Configuration) (bs : List CloseBlock) (s : State) (hc : s.life.config = some c)
    (hs : P s) : P (bs.foldl (closeBlock c) s) := by
  induction bs generalizing s with
  | nil => exact hs
  | cons b bs ih => exact ih _ (by rw [closeBlock_config]; exact hc) (h.block s c b hc hs)

theorem Kept.closePoint (h : Kept P) (s : State) (o : CloseOrder) (hs : P s) : P (s.closePoint o) := by
  unfold State.closePoint
  repeat' split
  · rename_i c hc hd
    simp only [Bool.and_eq_true] at hd
    exact h.blocks c o _ hc (h.rowClosed s c hc hd.1 hs)
  · exact hs
  · exact hs

theorem Kept.nextMark (h : Kept P) (s : State) (x : BayLines) (hs : P s) : P (s.nextMark x) := by
  unfold State.nextMark
  split
  · exact hs
  · exact h.bareMark s x hs
  · exact h.localMark s x hs
  · exact h.roundMark s x hs

theorem Kept.checkPoint (h : Kept P) (s : State) (p : CheckPoint) (hs : P s) : P (s.checkPoint p) := by
  cases p
  · exact h.closePoint s _ hs
  · exact h.localMark s _ hs

theorem Kept.finishLeave (h : Kept P) (s : State) (f : LeaveFinish) (hs : P s) : P (s.finishLeave f) := by
  cases f
  · exact h.sent s _ hs
  · unfold State.finishLeave State.request; exact h.requestChars s _ _ _ hs

theorem Kept.responseComplete (h : Kept P) (s : State) (straps : Straps) (hs : P s) : P (s.responseComplete straps) := by
  unfold State.responseComplete State.afterResponse
  repeat' split
  · exact h.link _ _ hs
  · exact h.read _ _ (h.link _ _ hs)
  · exact h.reset _ _ _ (h.link _ _ hs)
  · exact hs

/-- What a command that needs power answers. -/
theorem live_next {s t : State} {f : State → State} (h : live s f = .next t) : t = if s.powered then f s else s := by
  unfold live at h; injection h with h; exact h.symm

/-- A property that the operations keep is kept by every command. -/
theorem Kept.exec (h : Kept P) (i : Instr) (s t : State) (hs : P s) (he : Machine.exec i s = .next t) : P t := by
  have lv : ∀ f : State → State, live s f = .next t → P (f s) → P t := by
    intro f hf hp; rw [live_next hf]; split
    · exact hp
    · exact hs
  cases i <;> simp only [Machine.exec] at he
  case powerOn straps mv =>
    unfold execPowerOn at he; injection he with he; subst he; split
    · exact h.reset _ _ _ hs
    · exact hs
  case supplyRestore => refine lv _ he ?_; unfold State.supplyRestore; split; exacts [h.reset _ _ _ hs, hs]
  case configReadEnd => exact lv _ he (h.readEnd s _ _ hs)
  case bareMark => exact lv _ he (h.bareMark s _ hs)
  case localMark => exact lv _ he (h.localMark s _ hs)
  case stabiliseEnd => refine lv _ he ?_; split; exacts [h.localMark s _ hs, hs]
  case startOfOwnNumbering => refine lv _ he ?_; repeat' split
                              all_goals first | exact h.localMark s _ hs | exact hs
  case roundMark => exact lv _ he (h.roundMark s _ hs)
  case closePoint => exact lv _ he (h.closePoint s _ hs)
  case scanComplete => exact lv _ he (h.scan s _ hs)
  case acqFault => refine lv _ he ?_; split; exacts [h.scan s _ hs, hs]
  case acqRestored => refine lv _ he ?_; split; exacts [h.scan s _ hs, hs]
  case debounceAdopt => refine lv _ he ?_; split; exacts [h.nextMark s _ hs, hs]
  case contribReceived => exact lv _ he (h.contrib s _ _ hs)
  case leaveReceived => exact lv _ he (h.leaveFrame s _ _ hs)
  case unknownLead => exact lv _ he (h.unknownLead s _ _ hs)
  case framingError => exact lv _ he (h.framing s _ _ _ hs)
  case truncation => exact lv _ he (h.truncation s _ _ hs)
  case lineClearSeen => exact lv _ he (h.clearSeen s _ _ hs)
  case transmissionComplete => exact lv _ he (h.sent s _ hs)
  case lineClearEnd => exact lv _ he (h.clearEnd s _ hs)
  case gapEnd => exact lv _ he (h.gapEnd s _ hs)
  case linkDown => refine lv _ he ?_; split; exacts [h.checkPoint s _ hs, hs]
  case linkUp => refine lv _ he ?_; split; exacts [h.checkPoint s _ hs, hs]
  case leavingEnd => refine lv _ he ?_; split; exacts [h.finishLeave s _ hs, hs]
  case supplyLow => refine lv _ he ?_; unfold State.supplyLow; split; exacts [h.hold s hs, hs]
  case mlBreak => exact lv _ he (h.link s _ hs)
  case rateMatch => exact lv _ he (h.link s _ hs)
  case mlFramingError => refine lv _ he ?_; unfold State.mlFramingError; repeat' split
                         all_goals exact h.link s _ hs
  case lengthError => refine lv _ he ?_; unfold State.lengthError; repeat' split
                      all_goals exact h.link s _ hs
  case requestTruncated => refine lv _ he ?_; unfold State.requestTruncated; repeat' split
                           all_goals exact h.link s _ hs
  case skippingEnd => refine lv _ he ?_; unfold State.skippingEnd; split; exacts [h.link _ _ hs, hs]
  case malformedCharacter => exact lv _ he (h.malformed s _ hs)
  case returnToHunt => exact lv _ he (h.backToHunt s _ hs)
  case responseComplete => exact lv _ he (h.responseComplete s _ hs)
  case powerLoss => refine lv _ he ?_; split; exacts [h.power s _ hs, hs]
  case entryPresent | entryLost | endzoneRelease | isolatorStuck | armed | clear | gaps | supervisionLatch | bfExpired |
      promotion | exclusion => refine lv _ he ?_; split; exacts [h.closePoint s _ hs, hs]
  all_goals exact lv _ he (h.requestChars s _ _ _ hs)

/-- A property that the operations, the passing of time and the taking of a command from the queue keep is kept by every
step. -/
theorem Kept.step (h : Kept P) (hq : ∀ s q, P s → P { s with pending := q }) (ht : ∀ s, P s → P (s.elapse 1)) (s t : State)
    (hs : P s) (he : Machine.step s = .next t) : P t := by
  unfold Machine.step at he
  split at he
  · injection he with he; subst he; unfold State.idle; split
    · exact ht s hs
    · exact hs
  · exact h.exec _ _ _ (hq s _ hs) he

end Sys2Proof.Machine
end

