-- ==== Sys2Proof/Laws/PerInstr.lean ====
section
/-! SUPPORT. The family Occasion, one lemma for each command: a well-formed command brings a close in a valid order, and no more
characters than its frame or request has. -/

namespace Sys2Proof

/-- The order in which a command's close is taken, if it brings one. -/
def Instr.closeOrder : Instr → Option CloseOrder
  | .closePoint o | .entryPresent _ o | .entryLost _ o | .endzoneRelease _ o | .isolatorStuck _ _ o | .armed _ o | .clear _ o
  | .gaps _ o | .supervisionLatch _ o | .bfExpired o | .promotion o | .exclusion o | .linkDown _ (.close o)
  | .linkUp _ (.close o) => some o
  | _ => none

/-- The characters a command brings on a lane of the ring. -/
def Instr.ringChars : Instr → List Byte
  | .contribReceived _ cs | .leaveReceived _ cs | .framingError _ cs _ | .truncation _ cs | .lineClearSeen _ cs => cs
  | .unknownLead _ c => [c]
  | _ => []

/-- The characters a command brings on the maintenance line. -/
def Instr.linkChars : Instr → List Byte
  | .leavingEnd (.request cs) | .mlFramingError cs | .lengthError cs | .requestTruncated cs | .unknownKind cs | .status cs
  | .round cs | .events cs | .members cs | .ackTrip cs | .release cs | .leave cs | .restart cs | .requestCrcError cs => cs
  | _ => []

/-- A run of at most n characters. -/
theorem charsWithin_length {n : Nat} {cs : List Byte} (h : charsWithin n cs = true) : cs.length ≤ n := by
  unfold charsWithin at h; simp at h; exact h.2

end Sys2Proof

namespace Sys2Proof.Laws.Occasion

/-- What a well-formed command can bring. -/
def Statement (i : Instr) : Prop :=
  i.wellFormed = true →
    (∀ o, i.closeOrder = some o → o.valid = true) ∧ i.ringChars.length ≤ 24 ∧ i.linkChars.length ≤ 254

/-- A command that brings no close. -/
theorem no_close {o : CloseOrder} (h : (none : Option CloseOrder) = some o) : o.valid = true := nomatch h

/-- A command that brings a close in this order. -/
theorem one_close {o p : CloseOrder} (hv : p.valid = true) (h : some p = some o) : o.valid = true := by
  injection h with h; exact h ▸ hv

theorem powerOn (straps : Straps) (millivolts : Nat) : Statement (.powerOn straps millivolts) :=
  fun _ => ⟨fun _ ho => no_close ho, Nat.zero_le _, Nat.zero_le _⟩
theorem supplyRestore (straps : Straps) (millivolts : Nat) : Statement (.supplyRestore straps millivolts) :=
  fun _ => ⟨fun _ ho => no_close ho, Nat.zero_le _, Nat.zero_le _⟩
theorem configReadEnd (image : List Byte) (lines : BayLines) : Statement (.configReadEnd image lines) :=
  fun _ => ⟨fun _ ho => no_close ho, Nat.zero_le _, Nat.zero_le _⟩
theorem bareMark (lines : BayLines) : Statement (.bareMark lines) :=
  fun _ => ⟨fun _ ho => no_close ho, Nat.zero_le _, Nat.zero_le _⟩
theorem localMark (lines : BayLines) : Statement (.localMark lines) :=
  fun _ => ⟨fun _ ho => no_close ho, Nat.zero_le _, Nat.zero_le _⟩
theorem stabiliseEnd (lines : BayLines) : Statement (.stabiliseEnd lines) :=
  fun _ => ⟨fun _ ho => no_close ho, Nat.zero_le _, Nat.zero_le _⟩
theorem startOfOwnNumbering (lines : BayLines) : Statement (.startOfOwnNumbering lines) :=
  fun _ => ⟨fun _ ho => no_close ho, Nat.zero_le _, Nat.zero_le _⟩
theorem roundMark (lines : BayLines) : Statement (.roundMark lines) :=
  fun _ => ⟨fun _ ho => no_close ho, Nat.zero_le _, Nat.zero_le _⟩
theorem closePoint (order : CloseOrder) : Statement (.closePoint order) :=
  fun h => ⟨fun _ ho => one_close h ho, Nat.zero_le _, Nat.zero_le _⟩
theorem entryPresent (station : Nat) (order : CloseOrder) : Statement (.entryPresent station order) :=
  fun h => ⟨fun _ ho => one_close (Bool.and_eq_true_iff.mp h).2 ho, Nat.zero_le _, Nat.zero_le _⟩
theorem entryLost (station : Nat) (order : CloseOrder) : Statement (.entryLost station order) :=
  fun h => ⟨fun _ ho => one_close (Bool.and_eq_true_iff.mp h).2 ho, Nat.zero_le _, Nat.zero_le _⟩
theorem endzoneRelease (station : Nat) (order : CloseOrder) : Statement (.endzoneRelease station order) :=
  fun h => ⟨fun _ ho => one_close (Bool.and_eq_true_iff.mp h).2 ho, Nat.zero_le _, Nat.zero_le _⟩
theorem isolatorStuck (station : Nat) (bus : Bus) (order : CloseOrder) : Statement (.isolatorStuck station bus order) :=
  fun h => ⟨fun _ ho => one_close (Bool.and_eq_true_iff.mp h).2 ho, Nat.zero_le _, Nat.zero_le _⟩
theorem armed (zone : Zone) (order : CloseOrder) : Statement (.armed zone order) :=
  fun h => ⟨fun _ ho => one_close h ho, Nat.zero_le _, Nat.zero_le _⟩
theorem clear (zone : Zone) (order : CloseOrder) : Statement (.clear zone order) :=
  fun h => ⟨fun _ ho => one_close (Bool.and_eq_true_iff.mp h).2 ho, Nat.zero_le _, Nat.zero_le _⟩
theorem gaps (zone : Zone) (order : CloseOrder) : Statement (.gaps zone order) :=
  fun h => ⟨fun _ ho => one_close h ho, Nat.zero_le _, Nat.zero_le _⟩
theorem supervisionLatch (zone : Zone) (order : CloseOrder) : Statement (.supervisionLatch zone order) :=
  fun h => ⟨fun _ ho => one_close h ho, Nat.zero_le _, Nat.zero_le _⟩
theorem bfExpired (order : CloseOrder) : Statement (.bfExpired order) :=
  fun h => ⟨fun _ ho => one_close h ho, Nat.zero_le _, Nat.zero_le _⟩
theorem promotion (order : CloseOrder) : Statement (.promotion order) :=
  fun h => ⟨fun _ ho => one_close h ho, Nat.zero_le _, Nat.zero_le _⟩
theorem exclusion (order : CloseOrder) : Statement (.exclusion order) :=
  fun h => ⟨fun _ ho => one_close h ho, Nat.zero_le _, Nat.zero_le _⟩
theorem scanComplete (counts : ScanCounts) : Statement (.scanComplete counts) :=
  fun _ => ⟨fun _ ho => no_close ho, Nat.zero_le _, Nat.zero_le _⟩
theorem acqFault (counts : ScanCounts) : Statement (.acqFault counts) :=
  fun _ => ⟨fun _ ho => no_close ho, Nat.zero_le _, Nat.zero_le _⟩
theorem acqRestored (counts : ScanCounts) : Statement (.acqRestored counts) :=
  fun _ => ⟨fun _ ho => no_close ho, Nat.zero_le _, Nat.zero_le _⟩
theorem debounceAdopt (input : BayInput) (lines : BayLines) : Statement (.debounceAdopt input lines) :=
  fun _ => ⟨fun _ ho => no_close ho, Nat.zero_le _, Nat.zero_le _⟩
theorem contribReceived (lane : Lane) (chars : List Byte) : Statement (.contribReceived lane chars) :=
  fun h => ⟨fun _ ho => no_close ho, charsWithin_length h, Nat.zero_le _⟩
theorem leaveReceived (lane : Lane) (chars : List Byte) : Statement (.leaveReceived lane chars) :=
  fun h => ⟨fun _ ho => no_close ho, (charsWithin_length h).trans (by decide), Nat.zero_le _⟩
theorem unknownLead (lane : Lane) (char : Byte) : Statement (.unknownLead lane char) :=
  fun _ => ⟨fun _ ho => no_close ho, Nat.succ_le_succ (Nat.zero_le 23), Nat.zero_le _⟩
theorem framingError (lane : Lane) (chars : List Byte) (allSpace : Bool) : Statement (.framingError lane chars allSpace) :=
  fun h => ⟨fun _ ho => no_close ho, (of_decide_eq_true h).trans (by decide), Nat.zero_le _⟩
theorem truncation (lane : Lane) (chars : List Byte) : Statement (.truncation lane chars) :=
  fun h => ⟨fun _ ho => no_close ho, (of_decide_eq_true h).trans (by decide), Nat.zero_le _⟩
theorem lineClearSeen (lane : Lane) (chars : List Byte) : Statement (.lineClearSeen lane chars) :=
  fun h => ⟨fun _ ho => no_close ho, (of_decide_eq_true h).trans (by decide), Nat.zero_le _⟩
theorem transmissionComplete (lane : Lane) : Statement (.transmissionComplete lane) :=
  fun _ => ⟨fun _ ho => no_close ho, Nat.zero_le _, Nat.zero_le _⟩
theorem lineClearEnd (lane : Lane) : Statement (.lineClearEnd lane) :=
  fun _ => ⟨fun _ ho => no_close ho, Nat.zero_le _, Nat.zero_le _⟩
theorem gapEnd (lane : Lane) : Statement (.gapEnd lane) :=
  fun _ => ⟨fun _ ho => no_close ho, Nat.zero_le _, Nat.zero_le _⟩
theorem linkDown (lane : Lane) (point : CheckPoint) : Statement (.linkDown lane point) := by
  cases point
  · exact fun h => ⟨fun _ ho => one_close h ho, Nat.zero_le _, Nat.zero_le _⟩
  · exact fun _ => ⟨fun _ ho => no_close ho, Nat.zero_le _, Nat.zero_le _⟩
theorem linkUp (lane : Lane) (point : CheckPoint) : Statement (.linkUp lane point) := by
  cases point
  · exact fun h => ⟨fun _ ho => one_close h ho, Nat.zero_le _, Nat.zero_le _⟩
  · exact fun _ => ⟨fun _ ho => no_close ho, Nat.zero_le _, Nat.zero_le _⟩
theorem leavingEnd (finish : LeaveFinish) : Statement (.leavingEnd finish) := by
  cases finish
  · exact fun _ => ⟨fun _ ho => no_close ho, Nat.zero_le _, Nat.zero_le _⟩
  · exact fun h => ⟨fun _ ho => no_close ho, Nat.zero_le _, (charsWithin_length h).trans (by decide)⟩
theorem supplyLow (millivolts : Nat) : Statement (.supplyLow millivolts) :=
  fun _ => ⟨fun _ ho => no_close ho, Nat.zero_le _, Nat.zero_le _⟩
theorem mlBreak : Statement (.mlBreak) :=
  fun _ => ⟨fun _ ho => no_close ho, Nat.zero_le _, Nat.zero_le _⟩
theorem rateMatch (interval : Nat) (sampled : Option Byte) : Statement (.rateMatch interval sampled) :=
  fun _ => ⟨fun _ ho => no_close ho, Nat.zero_le _, Nat.zero_le _⟩
theorem mlFramingError (chars : List Byte) : Statement (.mlFramingError chars) :=
  fun h => ⟨fun _ ho => no_close ho, Nat.zero_le _, (of_decide_eq_true h).trans (by decide)⟩
theorem lengthError (chars : List Byte) : Statement (.lengthError chars) :=
  fun h => ⟨fun _ ho => no_close ho, Nat.zero_le _, (charsWithin_length h).trans (by decide)⟩
theorem requestTruncated (chars : List Byte) : Statement (.requestTruncated chars) :=
  fun h => ⟨fun _ ho => no_close ho, Nat.zero_le _, (of_decide_eq_true h).trans (by decide)⟩
theorem unknownKind (chars : List Byte) : Statement (.unknownKind chars) :=
  fun h => ⟨fun _ ho => no_close ho, Nat.zero_le _, charsWithin_length h⟩
theorem status (chars : List Byte) : Statement (.status chars) :=
  fun h => ⟨fun _ ho => no_close ho, Nat.zero_le _, charsWithin_length h⟩
theorem round (chars : List Byte) : Statement (.round chars) :=
  fun h => ⟨fun _ ho => no_close ho, Nat.zero_le _, charsWithin_length h⟩
theorem events (chars : List Byte) : Statement (.events chars) :=
  fun h => ⟨fun _ ho => no_close ho, Nat.zero_le _, charsWithin_length h⟩
theorem members (chars : List Byte) : Statement (.members chars) :=
  fun h => ⟨fun _ ho => no_close ho, Nat.zero_le _, charsWithin_length h⟩
theorem ackTrip (chars : List Byte) : Statement (.ackTrip chars) :=
  fun h => ⟨fun _ ho => no_close ho, Nat.zero_le _, charsWithin_length h⟩
theorem release (chars : List Byte) : Statement (.release chars) :=
  fun h => ⟨fun _ ho => no_close ho, Nat.zero_le _, charsWithin_length h⟩
theorem leave (chars : List Byte) : Statement (.leave chars) :=
  fun h => ⟨fun _ ho => no_close ho, Nat.zero_le _, charsWithin_length h⟩
theorem restart (chars : List Byte) : Statement (.restart chars) :=
  fun h => ⟨fun _ ho => no_close ho, Nat.zero_le _, charsWithin_length h⟩
theorem responseComplete (straps : Straps) : Statement (.responseComplete straps) :=
  fun _ => ⟨fun _ ho => no_close ho, Nat.zero_le _, Nat.zero_le _⟩
theorem requestCrcError (chars : List Byte) : Statement (.requestCrcError chars) :=
  fun h => ⟨fun _ ho => no_close ho, Nat.zero_le _, charsWithin_length h⟩
theorem skippingEnd : Statement (.skippingEnd) :=
  fun _ => ⟨fun _ ho => no_close ho, Nat.zero_le _, Nat.zero_le _⟩
theorem malformedCharacter (lane : Lane) : Statement (.malformedCharacter lane) :=
  fun _ => ⟨fun _ ho => no_close ho, Nat.zero_le _, Nat.zero_le _⟩
theorem returnToHunt (lane : Lane) : Statement (.returnToHunt lane) :=
  fun _ => ⟨fun _ ho => no_close ho, Nat.zero_le _, Nat.zero_le _⟩
theorem powerLoss : Statement (.powerLoss) :=
  fun _ => ⟨fun _ ho => no_close ho, Nat.zero_le _, Nat.zero_le _⟩

end Sys2Proof.Laws.Occasion
end

