-- ==== Sys2Proof/Tests/Slice0.lean ====
section
/-! SUPPORT. The model's own tests: ill-formed commands refused by WellFormed, the manual's worked values, one small step for each
command, and for every statement with hypotheses a state and operands that meet them. -/

namespace Sys2Proof.Tests

open Sys2Proof Sys2Proof.Machine

set_option Elab.async false

/-! ## WellFormed refuses ill-formed commands -/

def inOrder : CloseOrder := [.health, .membership, .replica, .zones, .trip, .timer, .controller]
def lateMembers : CloseOrder := [.replica, .zones, .trip, .membership, .health, .timer, .controller]
def quietLines : BayLines := ⟨true, false, false, true, true, false, false⟩

theorem test_order_wellFormed : (Instr.closePoint inOrder).wellFormed = true := by decide
theorem test_order_unchained_illFormed : (Instr.closePoint lateMembers).wellFormed = false := by decide
theorem test_order_twice_illFormed : (Instr.closePoint (.timer :: inOrder)).wellFormed = false := by decide
theorem test_order_missing_illFormed : (Instr.promotion (inOrder.erase .health)).wellFormed = false := by decide
theorem test_station_illFormed : (Instr.entryPresent 40 inOrder).wellFormed = false := by decide
theorem test_lost_station_illFormed : (Instr.entryLost 40 inOrder).wellFormed = false := by decide
theorem test_coupler_station_illFormed : (Instr.endzoneRelease 255 inOrder).wellFormed = false := by decide
theorem test_isolator_station_illFormed : (Instr.isolatorStuck 40 .a inOrder).wellFormed = false := by decide
theorem test_clear_cz_illFormed : (Instr.clear .cz inOrder).wellFormed = false := by decide
theorem test_image_short_illFormed : (Instr.configReadEnd [0x2E#8, 3#8] quietLines).wellFormed = false := by decide
theorem test_image_two_wellFormed : (Instr.configReadEnd [0x2F#8, 3#8] quietLines).wellFormed = true := by decide
theorem test_contrib_empty_illFormed : (Instr.contribReceived .one []).wellFormed = false := by decide
theorem test_contrib_long_illFormed : (Instr.contribReceived .one (List.replicate 25 0#8)).wellFormed = false := by decide
theorem test_leave_long_illFormed : (Instr.leaveReceived .two (List.replicate 13 0#8)).wellFormed = false := by decide
theorem test_known_lead_illFormed : (Instr.unknownLead .one 0xC4#8).wellFormed = false := by decide
theorem test_whole_frame_error_illFormed : (Instr.framingError .one (List.replicate 24 0#8) true).wellFormed = false := by decide
theorem test_whole_truncation_illFormed : (Instr.truncation .one (List.replicate 24 0#8)).wellFormed = false := by decide
theorem test_whole_clear_illFormed : (Instr.lineClearSeen .one (List.replicate 24 0#8)).wellFormed = false := by decide
theorem test_link_point_illFormed : (Instr.linkDown .one (.close [])).wellFormed = false := by decide
theorem test_finish_illFormed : (Instr.leavingEnd (.request [])).wellFormed = false := by decide
theorem test_ml_error_illFormed : (Instr.mlFramingError (List.replicate 254 0#8)).wellFormed = false := by decide +kernel
theorem test_length_error_illFormed : (Instr.lengthError [0x11#8, 251#8, 0#8]).wellFormed = false := by decide
theorem test_request_long_illFormed : (Instr.status (List.replicate 255 0#8)).wellFormed = false := by decide +kernel

/-! ## The table spells no command -/

theorem test_no_word_spells : decodeTableWord 16 0x1234 = none := by decide
theorem test_withFetchWord : State.reset.withFetchWord 16 0x1234 = State.reset := by decide

/-! ## The manual's worked values -/

/-- R41: the CRC of the text "123456789". -/
theorem test_crc : crc16 [0x31#8, 0x32#8, 0x33#8, 0x34#8, 0x35#8, 0x36#8, 0x37#8, 0x38#8, 0x39#8] = 0x29B1#16 := by
  decide +kernel

/-- Section 2.3: scaling with reversed polarity. -/
theorem test_scaling : scaleCount 2500 .minus 1000 = -156250 ∧ scaleCount 2500 .minus (-7) = 1093 ∧
    scaleCount 65535 .minus 32767 = -8388607 ∧ scaleCount 65535 .plus 32767 = 8388607 := by decide

/-- R26: the double-bit pairs. -/
theorem test_pairs : pairValue false true = .opened ∧ pairValue true false = .closed ∧ pairValue false false = .intermediate ∧
    pairValue true true = .invalid := by decide

/-- Section 2.5: the reads of a bus-B isolator that closes, DEBOUNCE 3. -/
theorem test_debounce :
    [DoubleBit.opened, .opened, .intermediate, .intermediate, .closed, .invalid, .closed, .closed].foldl
      (fun d r => Debounce.step 3 r d) ⟨.opened, none⟩ = ⟨.opened, some (.closed, 2)⟩ ∧
    Debounce.step 3 .closed ⟨DoubleBit.opened, some (.closed, 2)⟩ = ⟨.closed, none⟩ := by decide

/-- Section 1.4: the pull-ins of the example. -/
theorem test_pullIn : pullIn (some 40) = some 25 ∧ pullIn (some 15) = some 15 ∧ pullIn (some 3) = some 3 ∧
    pullIn (some 2) = none ∧ pullIn (some (-7)) = none ∧ pullIn none = none := by decide

/-- R61: round 1 lies after LEAVE round 65535, round 65535 not after itself, and a difference of 32768 is not after. -/
theorem test_roundAfter : roundAfter 1#16 0xFFFF#16 = true ∧ roundAfter 0xFFFF#16 0xFFFF#16 = false ∧
    roundAfter 32768#16 0#16 = false ∧ roundAfter 32767#16 0#16 = true := by decide

/-- R186: a lowest-present value in 40..254 is read as 0xFF, and −8 388 608 as −8 388 607. -/
theorem test_reading : readLowest 39 = 39 ∧ readLowest 40 = 0xFF ∧ readLowest 254 = 0xFF ∧ readLowest 255 = 0xFF ∧
    readCurrent 0x800000 = -8388607 ∧ readCurrent 0x800001 = -8388607 ∧ readCurrent 0x7FFFFF = 8388607 := by decide

/-- Section 3.3: the age of a forwarded copy, with and without a configuration. -/
theorem test_copyAge_unconfigured : copyAge none [0xC4#8, 3#8, 0#8, 9#8, 0#8, 30#8] 2 = 32 := by decide

/-! ## A small station: number 5 on busbar A with feeder 7 and coupler 9 -/

def cfg : Configuration :=
  { roster := [⟨5, .feeder⟩, ⟨7, .feeder⟩, ⟨9, .coupler .plus⟩], spc := 16, period := 1000, close := 700, linkdly := 2,
    pickup := 1000, slopeZ := 8, slopeC := 8, countM := 4, incept := 4, holdTf := 16, supLevel := 200, supTime := 40,
    armRounds := 16, bfTime := 20, bfLevel := 500, confirm := 1, joinRounds := 8, lostRounds := 4, linkDownRounds := 3,
    endzoneRounds := 3, runLimit := 100, debounce := 3, tripHold := 32, station := 5, scaleA := 16, scaleB := 16, scaleC := 16,
    ctPolarity := .plus, supplyLevel := 5, refNominal := 20000, refBand := 400 }

/-- Its image without the CRC, with this format byte, this roster, these joint rounds and this station number. -/
def imageBody (format : Byte) (roster : List Byte) (period station : Nat) : List Byte :=
  [format, byte (roster.length / 2)] ++ roster ++ [16#8] ++ bytes2 period ++ bytes2 700 ++ [2#8] ++ bytes2 1000 ++
  [8#8, 8#8, 4#8, 4#8, 16#8] ++ bytes2 200 ++ bytes2 40 ++ [16#8] ++ bytes2 20 ++ bytes2 500 ++
  [1#8, 8#8, 4#8, 3#8, 3#8] ++ bytes2 100 ++ [3#8, 32#8] ++ [byte station] ++ bytes2 16 ++ bytes2 16 ++ bytes2 16 ++
  [1#8, 5#8] ++ bytes2 20000 ++ bytes2 400

def sealed (body : List Byte) : List Byte := body ++ crcBytes body
def rosterBytes : List Byte := [5#8, 0#8, 7#8, 0#8, 9#8, 5#8]
def image : List Byte := sealed (imageBody 0x2E#8 rosterBytes 1000 5)

theorem test_image_config : configOf image = cfg := by decide +kernel
theorem test_image_length : image.length = 54 ∧ readLength image = 54 ∧ imageReadLength image = 54 := by decide +kernel
theorem test_check_good : imageCheck 5 image = .good := by decide +kernel
theorem test_check_format : imageCheck 5 [0x2F#8, 3#8] = .format := by decide +kernel
theorem test_check_count : imageCheck 5 [0x2E#8, 41#8] = .count ∧ imageCheck 5 [0x2E#8, 0#8] = .count := by decide +kernel
theorem test_check_crc : imageCheck 5 (image.set 53 0#8) = .crc := by decide +kernel
theorem test_check_range : imageCheck 5 (sealed (imageBody 0x2E#8 rosterBytes 499 5)) = .range ∧
    firstOutOfRange (sealed (imageBody 0x2E#8 rosterBytes 499 5)) = some 9 := by decide +kernel
theorem test_check_duplicate : imageCheck 5 (sealed (imageBody 0x2E#8 [5#8, 0#8, 7#8, 0#8, 7#8, 5#8] 1000 5)) = .duplicate := by
  decide +kernel
theorem test_check_couplers :
    imageCheck 5 (sealed (imageBody 0x2E#8 [5#8, 5#8, 7#8, 9#8, 9#8, 5#8] 1000 5)) = .couplers := by decide +kernel
theorem test_check_notOnRoster : imageCheck 6 (sealed (imageBody 0x2E#8 rosterBytes 1000 6)) = .notOnRoster := by
  decide +kernel
theorem test_check_strap : imageCheck 7 image = .strapMismatch := by decide +kernel

def checksum : Round := sharedChecksum image

/-- The station with this image in force, in a state and a timer mode, at phase 0 of round 10 with row 10 open. -/
def station (st : StationState) (m : TimerMode) : State :=
  { State.reset with
    now := 5000
    timer := { RoundTimer.initial with mode := m, round := 10, roundLength := 1000, history := [5000, 4000, 3000] }
    table := { RoundTable.initial with openRow := some (Row.fresh 10), newest := some (Row.fresh 9) }
    membership := { Membership.initial with
      entries := (cfg.roster.map Entry.fresh).map (fun e => if e.station = 5 then { e with state := ownEntryState st } else e) }
    life := { LifeCycle.initial .powerOn 5 with state := st, config := some cfg, checksum := some checksum } }

/-- A fresh start with the strap pins at 5: the image is being read. -/
def starting : State := { State.reset with life := LifeCycle.initial .powerOn 5 }
def faulty : State := { starting with life := { starting.life with state := .configFault }, timer := { starting.timer with mode := .bare } }
def settling (n : Nat) : State :=
  let s := station .stabilise .localMarks
  { s with life := { s.life with stageCount := n } }
def listening (n : Nat) : State :=
  let s := station .listen .localMarks
  { s with life := { s.life with stageCount := n }, table := RoundTable.initial }
def joining : State := station .joining .numbered
def present : State := station .present .numbered
def leaving : State := station .leaving .numbered

/-- A contribution with these isolators and the same current in every phase. -/
def content (isoA isoB : DoubleBit) (i : Int) : Content :=
  { sender := .present, quality := .valid, eUp := true, wUp := true, status := ⟨⟨isoA, isoB, .closed⟩, false⟩,
    tripped := BusSet.empty, release := ZoneSet.empty, lowest := 5, currents := ⟨i, i, i⟩ }

/-- Row 10 with all three stations heard: feeder 7's lead is 40 µs, its current 3000 A; feeder 5's is this. -/
def fullRow (own : Int) : Row :=
  (((Row.fresh 10).setBody 5 (.filled (content .closed .opened own) none)).setBody 7
    (.filled (content .closed .opened 3000) (some ⟨.one, 40⟩))).setBody 9
    (.filled (content .closed .closed 0) (some ⟨.two, 0⟩))

def withRow (r : Row) (s : State) : State := { s with table := { s.table with openRow := some r } }
def peersIn (st : EntryState) (s : State) : State :=
  { s with membership := { s.membership with entries := s.membership.entries.map (fun e => if e.station = 5 then e else { e with state := st }) } }
def zoneIn (z : ZoneRecord) (s : State) : State := { s with zones := { s.zones with a := z } }

/-- The station PRESENT with its peers PRESENT, its open row full. -/
def yard : State := peersIn .present (withRow (fullRow (-3000)) present)

/-- Where a command leads. -/
def after (i : Instr) (s : State) : State :=
  match exec i s with
  | .next t => t
  | _ => s

/-! ## One small step for each command -/

def lowSupply : State :=
  let s := station .hold .stopped
  { s with supply := ⟨true, true⟩ }
def armedSupply (s : State) : State := { s with supply := ⟨true, false⟩ }
def scanning (tag : ScanTag) (s : State) : State := { s with acquisition := { s.acquisition with scan := some tag } }
def refRuns (q : Quality) (miss good : Nat) (s : State) : State :=
  { s with acquisition := { s.acquisition with quality := q, missRun := miss, goodRun := good } }
def goodCounts : ScanCounts := ⟨20000#16, 100#16, 0xFFF9#16, 0#16⟩
def badCounts : ScanCounts := ⟨15000#16, 100#16, 0xFFF9#16, 0#16⟩

theorem test_powerOn : after (.powerOn 5#6 2700) lowSupply =
    { State.reset with now := 5000, life := LifeCycle.initial .powerOn 5,
                       events := ⟨[⟨.reset, 0, 5, [1#8]⟩], 0⟩ } := by decide +kernel
theorem test_supplyRestore : (after (.supplyRestore 5#6 2830) lowSupply).life = LifeCycle.initial .supplyRestore 5 ∧
    (after (.supplyRestore 5#6 2829) lowSupply) = lowSupply := by decide +kernel
theorem test_powerLoss : after .powerLoss lowSupply = { lowSupply with powered := false } := by decide +kernel
theorem test_configReadEnd : (after (.configReadEnd image quietLines) starting).life.config = some cfg ∧
    (after (.configReadEnd image quietLines) starting).life.state = .stabilise := by decide +kernel
theorem test_configReadEnd_bad : (after (.configReadEnd [0x2F#8, 3#8] quietLines) starting).life.lastCheck = some .format := by
  decide +kernel
theorem test_bareMark : (after (.bareMark quietLines) faulty).acquisition.positions = ⟨.closed, .opened, .closed⟩ := by
  decide +kernel
theorem test_localMark : (after (.localMark quietLines) (settling 5)).life.stageCount = 6 ∧
    (after (.localMark quietLines) (settling 5)).now = 6000 := by decide +kernel
theorem test_stabiliseEnd : (after (.stabiliseEnd quietLines) (settling 63)).life.state = .listen ∧
    after (.stabiliseEnd quietLines) (settling 62) = settling 62 := by decide +kernel
theorem test_startOfOwnNumbering : (after (.startOfOwnNumbering quietLines) (listening 7)).table.openRow = some (Row.fresh 0) ∧
    after (.startOfOwnNumbering quietLines) (listening 6) = listening 6 := by decide +kernel

def marking : State := withRow (Row.fresh 11) present
def closing : State := yard

theorem test_roundMark : (after (.roundMark quietLines) marking).timer.round = 11 ∧
    after (.roundMark quietLines) present = present := by decide +kernel
theorem test_closePoint : (after (.closePoint inOrder) closing).timer.roundLength = 975 ∧
    (after (.closePoint inOrder) closing).table.newest = some (fullRow (-3000)) := by decide +kernel

/-- In LEAVING too the effective confirmation is taken afresh, while nothing is a cause (R141, R139). -/
theorem test_closePoint_leaving :
    let s := peersIn .present (withRow (fullRow (-3000)) leaving)
    let t := after (.closePoint inOrder) { s with trip := { s.trip with effectiveConfirmation := 39, confirmersA := 2 } }
    t.trip.effectiveConfirmation = 1 ∧ t.trip.confirmersA = 0 := by decide +kernel

def hearing : State := peersIn .joining yard
def nearlyPresent : State :=
  { hearing with membership := { hearing.membership with
      entries := hearing.membership.entries.map (fun e => { e with joinRun := 7 }) } }
def nearlyLost : State :=
  let s := withRow (Row.fresh 10) yard
  { s with membership := { s.membership with entries := s.membership.entries.map (fun e => { e with missRun := 3 }) } }

theorem test_entryPresent : (after (.entryPresent 7 inOrder) nearlyPresent).entryState 7 = some .present ∧
    after (.entryPresent 7 inOrder) hearing = hearing := by decide +kernel
theorem test_entryLost : (after (.entryLost 7 inOrder) nearlyLost).entryState 7 = some .lost := by decide +kernel

def withStatus (p : Positions) (f : Entry → Entry) : State :=
  let s := withRow (Row.fresh 10) yard
  { s with membership := { s.membership with
      entries := s.membership.entries.map (fun e => f { e with lastKnown := some ⟨p, false⟩ }) } }
def openCoupler : State := withStatus ⟨.closed, .closed, .opened⟩ (fun e => { e with openRun := 2 })
def doubtful : State := withStatus ⟨.invalid, .opened, .closed⟩ (fun e => { e with indefiniteA := 99 })

theorem test_endzoneRelease : (after (.endzoneRelease 9 inOrder) openCoupler).replica.held.releasedIn 9 = true ∧
    after (.endzoneRelease 7 inOrder) openCoupler = openCoupler := by decide +kernel
theorem test_isolatorStuck : (after (.isolatorStuck 7 .a inOrder) doubtful).replica.held.stuckIn 7 .a = true ∧
    after (.isolatorStuck 7 .b inOrder) doubtful = doubtful := by decide +kernel

/-- A zone record in a state, its counts at these values, its windows full of false conditions. -/
def zoneAt (st : ZoneState) (arming gap clear : Nat) : ZoneRecord :=
  { state := st, armingCount := arming, gapCount := gap, clearRun := clear, latch := false,
    phases := ⟨{ PhaseRecord.initial with window := List.replicate 8 false },
      { PhaseRecord.initial with window := List.replicate 8 false },
      { PhaseRecord.initial with window := List.replicate 8 false }⟩ }
def bareZone (st : ZoneState) (arming gap clear : Nat) : ZoneRecord :=
  { ZoneRecord.initial with state := st, armingCount := arming, gapCount := gap, clearRun := clear }

def arming : State := zoneIn (zoneAt .arming 15 0 0) yard
def clearing : State := zoneIn (zoneAt .tripped 0 0 7) yard
def oneGap : State := zoneIn (zoneAt .active 0 1 0) (withRow ((fullRow 0).setBody 7 .disputed) yard)

/-- Zone A with 300 A left over in every phase, its supervision runs at 39, and its member set unchanged. -/
def leftover : State :=
  let z := zoneAt .active 0 0 0
  let s := zoneIn { z with phases := z.phases.map (fun p => { p with supervisionRun := 39 }) }
    (withRow (fullRow (-2700)) yard)
  { s with replica := { s.replica with held := (after (.closePoint inOrder) s).replica.held } }

theorem test_armed : ((after (.armed .a inOrder) arming).zones.get .a).state = .active ∧
    after (.armed .b inOrder) arming = arming := by decide +kernel
theorem test_clear : ((after (.clear .a inOrder) clearing).zones.get .a).state = .active := by decide +kernel
theorem test_gaps : ((after (.gaps .a inOrder) oneGap).zones.get .a).state = .blocked := by decide +kernel

def bfRunning (n : Nat) : State :=
  { yard with
    trip := { yard.trip with bfTimer := .running, bfCount := n, peakHistory := [⟨⟨-600, 0, 0⟩, .valid⟩] }
    acquisition := { yard.acquisition with initiation := ⟨true, none⟩ } }

theorem test_bfExpired : (after (.bfExpired inOrder) (bfRunning 1)).trip.bfFlag = true ∧
    after (.bfExpired inOrder) (bfRunning 2) = bfRunning 2 := by decide +kernel

def returned : State :=
  let s := withRow { Row.fresh 10 with returnedTwo := true } joining
  { s with life := { s.life with joinCount := 7 } }
def clashing : State :=
  let s := withRow { Row.fresh 10 with clash := true } present
  { s with life := { s.life with clashCount := 2 } }
def conflicting : State :=
  let s := withRow { Row.fresh 10 with conflict := true } joining
  { s with life := { s.life with conflictCount := 7 } }

theorem test_promotion : (after (.promotion inOrder) returned).life.state = .present := by decide +kernel
theorem test_exclusion : (after (.exclusion inOrder) clashing).life.state = .excluded ∧
    (after (.exclusion inOrder) conflicting).life.state = .excluded := by decide +kernel

theorem test_scanComplete : (after (.scanComplete goodCounts) (scanning (.round 10) present)).acquisition.currents =
      some ⟨100, -7, 0⟩ ∧
    ((after (.scanComplete goodCounts) (scanning (.round 10) present)).lane .two).queue.length = 1 := by decide +kernel
theorem test_acqFault :
    (after (.acqFault badCounts) (refRuns .valid 1 0 (scanning .localMark (settling 5)))).acquisition.quality = .invalid ∧
    after (.acqFault badCounts) (refRuns .valid 0 0 (scanning .localMark (settling 5))) =
      refRuns .valid 0 0 (scanning .localMark (settling 5)) := by decide +kernel
theorem test_acqRestored :
    (after (.acqRestored goodCounts) (refRuns .invalid 0 15 (scanning .localMark (settling 5)))).acquisition.quality = .valid := by
  decide +kernel

def closingIsolator : State :=
  { marking with acquisition := { marking.acquisition with isoA := ⟨.opened, some (.closed, 2)⟩ } }

theorem test_debounceAdopt :
    (after (.debounceAdopt .isolatorA quietLines) closingIsolator).acquisition.isoA = ⟨.closed, none⟩ ∧
    after (.debounceAdopt .breaker quietLines) closingIsolator = closingIsolator := by decide +kernel

/-! Ring -/

def contribOf (n : Nat) (k : Round) : List Byte := setAge (contribBytes n k (content .closed .opened 3000) checksum) 30
def leaveOf (n : Nat) (k : Round) : List Byte := setAge (leaveBytes n k leaveCommanded ⟨.opened, .opened, .opened⟩ checksum) 3
def peerContrib : List Byte := contribOf 7 10
def peerLeave : List Byte := leaveOf 7 10
def atPhase (p : Nat) (s : State) : State := { s with timer := { s.timer with phase := p }, now := 5000 + p }
def laneIs (l : Lane) (f : LaneState → LaneState) (s : State) : State := s.mapLane l f

theorem test_contribReceived : ((after (.contribReceived .one peerContrib) (atPhase 60 present)).table.openRow.map
      (fun r => r.body 7)) = some (.filled (content .closed .opened 3000) (some ⟨.one, -23⟩)) := by decide +kernel
theorem test_contribReceived_parts : after (.contribReceived .one (peerContrib.drop 9))
      (after (.contribReceived .one (peerContrib.take 9)) present) = after (.contribReceived .one peerContrib) present := by
  decide +kernel
theorem test_leaveReceived : (after (.leaveReceived .two peerLeave) yard).entryState 7 = some .left := by decide +kernel
theorem test_unknownLead : ((after (.unknownLead .one 0x55#8) present).lane .one).counters.unknownLeads = 1 := by decide +kernel
theorem test_framingError :
    ((after (.framingError .one (peerContrib.take 9) false) present).lane .one).receiver = .waitMark false ∧
    after (.framingError .one [] false) present = present := by decide +kernel
theorem test_truncation : ((after (.truncation .two (peerContrib.take 1)) present).lane .two).counters.truncatedFrames = 1 := by
  decide +kernel
theorem test_lineClearSeen : ((after (.lineClearSeen .one []) present).lane .one).receiver = .waitMark true ∧
    after (.lineClearSeen .one []) (after (.lineClearSeen .one []) present) = after (.lineClearSeen .one []) present := by
  decide +kernel
theorem test_malformedCharacter : ((after (.malformedCharacter .one) present).lane .one).receiver = .waitMark false := by
  decide +kernel
theorem test_returnToHunt : after (.returnToHunt .one) (after (.malformedCharacter .one) present) = present := by decide +kernel

def sendingLeave : State :=
  laneIs .one (fun x => { x with transmitter := .sending, queue := [⟨.own, leaveOf 5 10⟩] })
    { leaving with life := { leaving.life with leaveReports := 1, leaveTransmitted := 1 } }
def pendingClear : State := laneIs .two (fun x => { x with transmitter := .gap, clearPending := true }) present

theorem test_transmissionComplete : (after (.transmissionComplete .one) sendingLeave).life.state = .out ∧
    ((after (.transmissionComplete .one) sendingLeave).lane .one).transmitter = .gap := by decide +kernel

/-- The same LEAVE in HOLD: it leaves the queue, and the held counters stand (log entry 32). -/
theorem test_transmissionComplete_hold :
    let s := { sendingLeave with life := { sendingLeave.life with state := .hold } }
    ((after (.transmissionComplete .one) s).lane .one).queue = [] ∧
    ((after (.transmissionComplete .one) s).lane .one).counters.transmitted = 0 ∧
    ((after (.transmissionComplete .one) sendingLeave).lane .one).counters.transmitted = 1 := by decide +kernel
theorem test_leavingEnd : after (.leavingEnd (.transmission .one)) sendingLeave =
    after (.transmissionComplete .one) sendingLeave := by decide +kernel
theorem test_gapEnd : ((after (.gapEnd .two) pendingClear).lane .two).transmitter = .clearing := by decide +kernel
theorem test_lineClearEnd : ((after (.lineClearEnd .two) (after (.gapEnd .two) pendingClear)).lane .two).transmitter = .gap := by
  decide +kernel

def quietLane : State := laneIs .one (fun x => { x with up := true, silentRun := 2 }) present
def liveLane : State := laneIs .one (fun x => { x with liveRun := 1, goodSeen := true }) (settling 5)

theorem test_linkDown : ((after (.linkDown .one (.close inOrder)) quietLane).lane .one).up = false ∧
    after (.linkDown .two (.close inOrder)) quietLane = quietLane := by decide +kernel
theorem test_linkUp : ((after (.linkUp .one (.localMark quietLines)) liveLane).lane .one).up = true ∧
    ((after (.linkUp .one (.localMark quietLines)) liveLane).lane .two).transmitter = .clearing := by decide +kernel
theorem test_supplyLow : (after (.supplyLow 2749) (armedSupply present)).life.state = .hold ∧
    ((after (.supplyLow 2749) (armedSupply present)).lane .one).queue.length = 1 ∧
    after (.supplyLow 2750) (armedSupply present) = armedSupply present := by decide +kernel


/-- From LISTEN after a capture: the stage count and the capture are lost, the captured round is held (R161, log entry 31). -/
theorem test_supplyLow_listen :
    let s := station .listen .numbered
    let t := after (.supplyLow 2699) { s with
      timer := { s.timer with captured := true, captureMark := some (10, 4990) }, life := { s.life with stageCount := 3 } }
    t.timer.captured = false ∧ t.timer.captureMark = none ∧ t.timer.round = 10 ∧ t.life.stageCount = 0 := by decide +kernel

/-! Maintenance line -/

def matched (s : State) : State := { s with link := { s.link with rate := some .b115200 } }
def awaiting (s : State) : State := { s with link := { s.link with awaitingMatch := true } }
def answering (x : OnComplete) (s : State) : State :=
  let t := matched s
  { t with link := { t.link with response := some ⟨responseBytes 0x91#8 .done [], 0, 5000, x⟩ } }
def reply (i : Instr) (s : State) : Option (List Byte) := (after i (matched s)).link.response.map (fun r => (r.bytes.drop 2).take 2)

theorem test_mlBreak : (after .mlBreak (answering .restart present)).link.response = none ∧
    (after .mlBreak (answering .restart present)).link.counters.abandonedResponses = 1 := by decide +kernel
theorem test_rateMatch : (after (.rateMatch 78125 (some 0x55#8)) (awaiting present)).link.rate = some .b115200 ∧
    (after (.rateMatch 90000 (some 0x55#8)) (awaiting present)).link.rate = none := by decide +kernel
theorem test_mlFramingError : (after (.mlFramingError [0x11#8]) (matched present)).link.receiver = .skipping := by decide +kernel
theorem test_lengthError : (after (.lengthError [0x11#8, 251#8]) (matched present)).link.counters.lengthErrors = 1 ∧
    (after (.lengthError [0x11#8, 250#8]) (matched present)).link.counters.lengthErrors = 0 := by decide +kernel
theorem test_requestTruncated : (after (.requestTruncated [0x11#8]) (matched present)).link.counters.truncatedRequests = 1 := by
  decide +kernel
theorem test_skippingEnd : (after .skippingEnd (after (.mlFramingError []) (matched present))).link.receiver = .idle := by
  decide +kernel
theorem test_unknownKind : (after (.unknownKind (requestBytes 0x15#8 [])) (matched present)).link.response.map Response.bytes =
    some (responseBytes 0xFF#8 .malformed []) := by decide +kernel
theorem test_requestCrcError :
    (after (.requestCrcError [0x11#8, 0#8, 1#8, 2#8]) (matched present)).link.counters.crcErrors = 1 := by decide +kernel
theorem test_status : reply (.status (requestBytes 0x11#8 [])) present = some [0#8, 5#8] := by decide +kernel
theorem test_round : reply (.round (requestBytes 0x12#8 [])) present = some [0#8, 0#8] := by decide +kernel
theorem test_members : reply (.members (requestBytes 0x14#8 [])) present = some [0#8, 0#8] := by decide +kernel
theorem test_events : reply (.events (requestBytes 0x13#8 [16#8])) present = some [0#8, 1#8] ∧
    (reply (.events (requestBytes 0x13#8 [17#8])) present).map (fun b => b.take 1) = some [3#8] := by decide +kernel
theorem test_ackTrip : (after (.ackTrip (requestBytes 0x21#8 []))
    (matched { present with trip := { present.trip with latched := true } })).trip.latched = false := by decide +kernel

/-- Zone A latched, and quiet in the newest closed row. -/
def latchedA : State :=
  let z := zoneAt .blocked 0 0 0
  zoneIn { z with latch := true, phases := z.phases.map (fun p => { p with operate := some 199 }) } present

theorem test_release : (after (.release (requestBytes 0x22#8 [1#8])) (matched latchedA)).life.pendingRelease = ⟨true, false, false⟩ ∧
    reply (.release (requestBytes 0x22#8 [3#8])) latchedA = some [2#8, 1#8] := by decide +kernel
theorem test_leave : (after (.leave (requestBytes 0x23#8 [])) (matched joining)).life.state = .leaving ∧
    (reply (.leave (requestBytes 0x23#8 [])) starting).map (fun b => b.take 1) = some [1#8] := by decide +kernel
theorem test_restart : (after (.restart (requestBytes 0x24#8 [])) (matched present)).link.response.map Response.onComplete =
    some .restart := by decide +kernel
theorem test_responseComplete : (after (.responseComplete 5#6) (answering .restart present)).life.state = .start ∧
    (after (.responseComplete 5#6) (answering (.removeRecords 1) present)).events.records = [] := by decide +kernel

/-! ## States and operands that meet the hypotheses of the statements -/

def entryIn (s : State) (n : Nat) : Entry := (s.entry n).getD (Entry.fresh ⟨40, .feeder⟩)
def zoneOf (z : Zone) (s : State) (r : Row) : ZoneInputs × ZoneRecord := s.zoneAtClose cfg inOrder r z
def unpowered : State := { present with powered := false }

theorem witness_StepRunsFrontCommand : ∃ (c : Instr) (rest : List Instr) (s : State), s.pending = c :: rest :=
  ⟨.powerLoss, [], { lowSupply with pending := [.powerLoss] }, rfl⟩
theorem witness_IdleStep : (settling 5).pending = [] ∧ (settling 5).powered = true ∧ (settling 5).clockFree = true ∧
    unpowered.pending = [] ∧ unpowered.powered = false ∧
    (atPhase 700 present).pending = [] ∧ (atPhase 700 present).clockFree = false ∧ (atPhase 699 present).clockFree = true ∧
    (atPhase 999 (settling 5)).clockFree = false ∧ (atPhase 998 (settling 5)).clockFree = true := by decide +kernel
theorem witness_WithoutPower : unpowered.powered = false ∧ ∀ straps mv, Instr.powerLoss ≠ .powerOn straps mv :=
  ⟨rfl, fun _ _ => nofun⟩
theorem witness_SupplyRestoreAndLoss : lowSupply.powered = true ∧ lowSupply.supply.low = true ∧
    lowSupply.watchedLevel + 80 = 2830 ∧ faulty.watchedLevel = 2700 := by decide +kernel
theorem witness_SupplyLowHolds : (armedSupply yard).powered = true ∧ (armedSupply yard).supply.low = false ∧
    2749 < (armedSupply yard).watchedLevel ∧ ¬ 2750 < (armedSupply yard).watchedLevel ∧
    (armedSupply yard).life.state = .present ∧ ((armedSupply yard).lane .one).intoHold.queue.length < 8 ∧
    (settling 5).life.state.contributing = false ∧ 2699 < (settling 5).watchedLevel ∧ (settling 5).supply.low = false ∧
    (settling 5).life.state = .stabilise ∧ (armedSupply yard).trip.energised = false ∧
    (armedSupply yard).trip.bfFlag = false ∧ (armedSupply yard).events.records.length ≤ 61 := by decide +kernel
theorem witness_EventListAcrossResets : (answering .restart present).powered = true ∧
    (answering .restart present).link.response.map Response.onComplete = some .restart ∧
    (answering (.removeRecords 1) present).link.response.map Response.onComplete = some (.removeRecords 1) ∧
    (matched present).hears (requestBytes kindStatus []) (requestBytes kindStatus []) ∧
    State.reset.events.records.length < 64 ∧
    64 ≤ (List.replicate 64 (⟨.reset, 0, 5, [1#8]⟩ : EventRecord)).length := by decide +kernel
theorem witness_ImageDecidesTheStart_good : starting.powered = true ∧ starting.life.state = .start ∧ image.length = readLength image ∧
    imageCheck starting.life.strap image = .good := by decide +kernel
theorem witness_ImageDecidesTheStart_bad : starting.life.state = .start ∧ [0x2F#8, 3#8].length = readLength [0x2F#8, 3#8] ∧
    imageCheck starting.life.strap [0x2F#8, 3#8] ≠ .good := by decide +kernel
theorem witness_BareMarkReadsRaw : faulty.powered = true ∧ faulty.timer.mode = .bare ∧ faulty.life.config = none ∧
    faulty.acquisition.scan = none ∧ (scanning .bare faulty).acquisition.scan ≠ none := by decide +kernel
theorem witness_LocalMarksRunTheirStages : (settling 62).powered = true ∧ (settling 62).timer.mode = .localMarks ∧
    (settling 62).life.config = some cfg ∧ (settling 62).life.state = .stabilise ∧ (settling 62).life.stageCount + 1 < 64 ∧
    (listening 6).life.state = .listen ∧ (listening 6).timer.mode = .localMarks ∧
    (listening 6).life.stageCount + 1 < 2 * cfg.lostRounds ∧ (settling 62).acquisition.scan = none ∧
    (scanning .localMark (settling 62)).acquisition.scan ≠ none := by decide +kernel
theorem witness_LocalMarksRunTheirStages_end : (settling 63).powered = true ∧ (settling 63).timer.mode = .localMarks ∧
    (settling 63).life.config = some cfg ∧ (settling 63).life.state = .stabilise ∧ (settling 63).life.stageCount = 63 := by
  decide +kernel
theorem witness_OwnNumberingStarts : (listening 7).powered = true ∧ (listening 7).timer.mode = .localMarks ∧
    (listening 7).life.config = some cfg ∧ (listening 7).life.state = .listen ∧
    (listening 7).life.stageCount + 1 = 2 * cfg.lostRounds := by decide +kernel
theorem witness_RoundMarkAdvances : marking.powered = true ∧ marking.timer.mode = .numbered ∧ marking.closeAhead = false ∧
    marking.life.config = some cfg ∧ marking.life.state ≠ .listen ∧
    (withRow (Row.fresh 11) (station .listen .numbered)).closeAhead = false ∧
    (scanning .void marking).acquisition.scan ≠ none ∧ marking.acquisition.scan = none := by decide +kernel

/-- The station between its close point and its mark, with a second read behind it of every new input value. -/
def candidates : State :=
  { marking with acquisition := { marking.acquisition with
      isoA := ⟨.opened, some (.closed, 2)⟩, isoB := ⟨.invalid, some (.opened, 2)⟩, breaker := ⟨.opened, some (.closed, 2)⟩,
      initiation := ⟨true, some (false, 2)⟩ } }

theorem witness_DebounceAdopts : candidates.markComes ∧ candidates.life.config = some cfg ∧
    ∀ i, inputAdopts i cfg.debounce quietLines candidates.acquisition :=
  ⟨by decide +kernel, rfl, fun i => by
    cases i <;> exact ⟨by decide, 2, rfl, by decide⟩⟩

/-! Scans -/

theorem witness_ScanStores : (scanning (.round 10) present).powered = true ∧
    (scanning (.round 10) present).life.config = some cfg ∧ (scanning (.round 10) present).acquisition.scan = some (.round 10) ∧
    (scanning .void leaving).acquisition.scan = some .void ∧ (scanning .void leaving).life.state.working = true ∧
    ¬ (scanning .localMark (settling 5)).life.state.working = true ∧
    (scanning .bare faulty).life.config = none ∧ (scanning .bare faulty).acquisition.scan = some .bare := by decide +kernel
theorem witness_QualityFollowsReference :
    (refRuns .valid 0 0 (scanning (.round 10) present)).acquisition.quality = .valid ∧
    (refRuns .valid 1 0 (scanning (.round 10) present)).acquisition.missRun = 1 ∧
    (refRuns .invalid 0 14 (scanning (.round 10) present)).acquisition.goodRun < 15 ∧
    (refRuns .invalid 0 15 (scanning (.round 10) present)).acquisition.goodRun = 15 ∧
    (refRuns .invalid 0 15 (scanning (.round 10) present)).life.state.contributing = true ∧
    refGood cfg 19600 = true ∧ refGood cfg 19599 = false ∧ refGood cfg 20400 = true ∧ refGood cfg 20401 = false := by
  decide +kernel
theorem witness_OwnContributionBuilt : (scanning (.round 10) present).life.state.contributing = true ∧
    (scanning (.round 10) present).acquisition.scan = some (.round 10) ∧
    (scanning (.round 10) present).table.openRow = some (Row.fresh 10) ∧ (Row.fresh 10).round = 10 ∧
    (Row.fresh 10).body cfg.station = .empty ∧ cfg.station < (Row.fresh 10).slots.length ∧
    ((scanning (.round 10) present).lane .one).queue.length < 8 ∧
    8 ≤ (List.replicate 8 (⟨.own, contribOf 5 9⟩ : QueuedFrame)).length ∧
    (content .closed .opened (-8388607)).lowest < 40 ∧
    (∀ p ∈ [Phase.a, .b, .c], ((content .closed .opened (-8388607)).currents.get p).natAbs ≤ 8388607) ∧
    readContrib (contribBytes 39 0xFFFF (content .closed .opened (-8388607)) checksum) =
      ⟨39, 0xFFFF, 0, 0, content .closed .opened (-8388607), checksum⟩ := by decide +kernel

/-! Close points -/

theorem witness_closes : yard.closes cfg inOrder ∧ yard.table.openRow = some (fullRow (-3000)) ∧
    (atPhase 700 yard).closes cfg inOrder ∧ ¬ (atPhase 701 yard).closes cfg inOrder := by decide +kernel
theorem witness_ClosePullsIn : yard.closes cfg inOrder ∧ yard.table.openRow = some (fullRow (-3000)) ∧
    yard.life.state.working = true ∧ largestLead ((fullRow (-3000)).slots.filterMap slotLead) = some 40 ∧
    (after (.closePoint inOrder) yard).life.state ≠ .excluded ∧
    (withRow (Row.fresh 10) yard).closes cfg inOrder ∧ largestLead ((Row.fresh 10).slots.filterMap slotLead) = none := by
  decide +kernel
theorem witness_PeerBecomesPresentOrLost : nearlyPresent.closes cfg inOrder ∧
    nearlyPresent.table.openRow = some (fullRow (-3000)) ∧ 7 ≠ cfg.station ∧
    nearlyPresent.entry 7 = some (entryIn nearlyPresent 7) ∧ (entryIn nearlyPresent 7).state = .joining ∧
    (entryIn nearlyPresent 7).heard (fullRow (-3000)) = true ∧
    cfg.joinRounds ≤ (entryIn nearlyPresent 7).joinRun + 1 := by decide +kernel
theorem witness_PeerBecomesPresentOrLost_lost : nearlyLost.closes cfg inOrder ∧ nearlyLost.table.openRow = some (Row.fresh 10) ∧
    nearlyLost.entry 7 = some (entryIn nearlyLost 7) ∧ (entryIn nearlyLost 7).state = .present ∧
    (entryIn nearlyLost 7).heard (Row.fresh 10) = false ∧ cfg.lostRounds ≤ (entryIn nearlyLost 7).missRun + 1 := by
  decide +kernel
theorem witness_CouplerReleasedOrIsolatorStuck : openCoupler.closes cfg inOrder ∧
    (openCoupler.closeBefore cfg inOrder .replica).entry 9 =
      some (entryIn (openCoupler.closeBefore cfg inOrder .replica) 9) ∧
    (entryIn (openCoupler.closeBefore cfg inOrder .replica) 9).kind ≠ .feeder ∧
    (entryIn (openCoupler.closeBefore cfg inOrder .replica) 9).openRun = cfg.endzoneRounds ∧
    openCoupler.replica.held.releasedIn 9 = false := by decide +kernel
theorem witness_CouplerReleasedOrIsolatorStuck_a : doubtful.closes cfg inOrder ∧
    (doubtful.closeBefore cfg inOrder .replica).entry 7 = some (entryIn (doubtful.closeBefore cfg inOrder .replica) 7) ∧
    (entryIn (doubtful.closeBefore cfg inOrder .replica) 7).indefiniteA = cfg.runLimit ∧
    doubtful.replica.held.stuckIn 7 .a = false := by decide +kernel

def doubtfulB : State := withStatus ⟨.closed, .intermediate, .closed⟩ (fun e => { e with indefiniteB := 99 })

theorem witness_CouplerReleasedOrIsolatorStuck_b : doubtfulB.closes cfg inOrder ∧
    (entryIn (doubtfulB.closeBefore cfg inOrder .replica) 7).indefiniteB = cfg.runLimit ∧
    doubtfulB.replica.held.stuckIn 7 .b = false := by decide +kernel
/-- Every peer on both busbars: the next replica is MERGED. -/
def onBoth : State := withStatus ⟨.closed, .closed, .closed⟩ id

/-- The station whose replica and zones are MERGED already. -/
def mergedYard (s : State) : State :=
  { s with
    zones := { s.zones with merged := true, b := s.zones.a }
    replica := { s.replica with held := { s.replica.held with merged := true } } }

theorem witness_ReplicaFormed :
    (∀ s ∈ [yard, onBoth, mergedYard yard, openCoupler],
      s.closes cfg inOrder ∧ s.table.openRow.isSome = true ∧
      (s.closeBefore cfg inOrder .replica).events.records.length < 64) ∧
    yard.replica.held.merged = false ∧ (after (.closePoint inOrder) onBoth).replica.held.merged = true ∧
    (mergedYard yard).replica.held.merged = true ∧ (after (.closePoint inOrder) (mergedYard yard)).replica.held.merged = false ∧
    (after (.closePoint inOrder) yard).replica.held.setA = [⟨5, .plus⟩, ⟨7, .plus⟩, ⟨9, .minus⟩] ∧
    (after (.closePoint inOrder) yard).replica.held.setB = [⟨9, .plus⟩] := by decide +kernel
theorem witness_ZonesMergeAndSplit :
    (∀ s ∈ [yard, onBoth, mergedYard yard, mergedYard onBoth], s.closes cfg inOrder ∧ s.table.openRow.isSome = true) ∧
    (after (.closePoint inOrder) yard).zones.merged = false ∧ (after (.closePoint inOrder) onBoth).zones.merged = true ∧
    (after (.closePoint inOrder) (mergedYard yard)).zones.merged = false ∧
    (after (.closePoint inOrder) (mergedYard onBoth)).zones.merged = true := by decide +kernel
theorem witness_ZoneQuantities : (zoneOf .a yard (fullRow (-3000))).1.complete = true ∧
    (zoneOf .cz yard (fullRow (-3000))).1.complete = true ∧ (zoneOf .b yard (fullRow (-3000))).1.complete = true ∧
    (zoneOf .a oneGap ((fullRow 0).setBody 7 .disputed)).1.complete = false ∧
    (List.replicate 40 (⟨7, .plus⟩ : Member)).length ≤ 40 ∧
    (memberCurrent (fullRow (-8388607)) .a ⟨5, .minus⟩).natAbs ≤ 8388607 := by decide +kernel
theorem witness_ZoneArms : arming.closes cfg inOrder ∧ arming.table.openRow = some (fullRow (-3000)) ∧
    (zoneOf .a arming (fullRow (-3000))).1.unblocked cfg (zoneOf .a arming (fullRow (-3000))).2 ∧
    (zoneOf .a arming (fullRow (-3000))).1.complete = true ∧ (zoneOf .a arming (fullRow (-3000))).2.state = .arming ∧
    cfg.armRounds ≤ (zoneOf .a arming (fullRow (-3000))).2.armingCount + 1 ∧ (arming.zones.get .a).state ≠ .active := by
  decide +kernel
/-- Zone A and CZ with windows full of true conditions but for one, zone A in this state, and 6000 A left over in each phase. -/
def faultedIn (st : ZoneState) (count : Nat) : State :=
  let z := zoneAt .active 0 0 0
  let hot : ZoneRecord := { z with phases := z.phases.map (fun p => { p with window := List.replicate 8 true }) }
  let s := withRow (fullRow 3000) yard
  { s with
    zones := { s.zones with a := { hot with state := st, armingCount := count }, cz := hot }
    replica := { s.replica with held := (after (.closePoint inOrder) s).replica.held } }

theorem witness_ZoneJudgedAndTripped :
    (∀ s ∈ [faultedIn .active 0, faultedIn .inactive 0, faultedIn .arming 14],
      s.closes cfg inOrder ∧ s.table.openRow = some (fullRow 3000) ∧
      (zoneOf .a s (fullRow 3000)).1.unblocked cfg (zoneOf .a s (fullRow 3000)).2 ∧
      (zoneOf .a s (fullRow 3000)).1.complete = true ∧ (s.closeBefore cfg inOrder .zones).events.records.length ≤ 55) ∧
    ((after (.closePoint inOrder) (faultedIn .active 0)).zones.get .a).state = .tripped ∧
    (zoneOf .cz (faultedIn .active 0) (fullRow 3000)).1.unblocked cfg (zoneOf .cz (faultedIn .active 0) (fullRow 3000)).2 ∧
    (zoneOf .cz (faultedIn .active 0) (fullRow 3000)).2.state = .active ∧
    (zoneOf .a yard (fullRow (-3000))).2.state ≠ .active ∧ (faultedIn .arming 14).zones.a.armingCount + 1 < cfg.armRounds ∧
    ((after (.closePoint inOrder) (zoneIn (zoneAt .active 0 0 0) yard)).zones.get .a).state = .active ∧
    (zoneOf .a (faultedIn .active 0) (fullRow 3000)).1.previous = (zoneOf .a (faultedIn .active 0) (fullRow 3000)).1.members ∧
    (zoneOf .b (withStatus ⟨.opened, .opened, .opened⟩ id) (Row.fresh 10)).1.members = [] ∧
    (zoneOf .a hearing (fullRow (-3000))).1.absent ≠ [] := by decide +kernel
theorem witness_ZoneClears : clearing.closes cfg inOrder ∧ clearing.table.openRow = some (fullRow (-3000)) ∧
    (zoneOf .a clearing (fullRow (-3000))).1.unblocked cfg (zoneOf .a clearing (fullRow (-3000))).2 ∧
    (zoneOf .a clearing (fullRow (-3000))).1.complete = true ∧ (zoneOf .a clearing (fullRow (-3000))).2.state = .tripped ∧
    (zoneJudged cfg (zoneOf .a clearing (fullRow (-3000))).1 (zoneOf .a clearing (fullRow (-3000))).2).phases.any
      PhaseRecord.faulted = false ∧
    cfg.w ≤ (zoneOf .a clearing (fullRow (-3000))).2.clearRun + 1 ∧ (clearing.zones.get .a).state ≠ .active := by
  decide +kernel

def gapRow : Row := (fullRow 0).setBody 7 .disputed

theorem witness_ZoneBlocksOnGaps : oneGap.closes cfg inOrder ∧ oneGap.table.openRow = some gapRow ∧
    (zoneOf .a oneGap gapRow).1.unblocked cfg (zoneOf .a oneGap gapRow).2 ∧ (zoneOf .a oneGap gapRow).1.complete = false ∧
    (zoneOf .a oneGap gapRow).2.state = .active ∧ 2 ≤ (zoneOf .a oneGap gapRow).2.gapCount + 1 ∧
    (oneGap.zones.get .a).state ≠ .blocked := by decide +kernel
theorem witness_SupervisionLatches : leftover.closes cfg inOrder ∧ leftover.table.openRow = some (fullRow (-2700)) ∧
    runsReached cfg (zoneOf .a leftover (fullRow (-2700))).1
      (zoneSupervised cfg (zoneOf .a leftover (fullRow (-2700))).1 (zoneOf .a leftover (fullRow (-2700))).2) ≠ [] := by
  decide +kernel

/-! The trip output and the breaker-failure timer -/

/-- Zone A TRIPPED by a clear run under way, feeder 7 naming it, the output as given. -/
def tripping (energised : Bool) (hold : Nat) (names : Bool) : State :=
  let k := { content .closed .opened 3000 with tripped := ⟨names, false⟩ }
  let s := zoneIn (zoneAt .tripped 0 0 0) (withRow ((fullRow (-3000)).setBody 7 (.filled k none)) yard)
  { s with trip := { s.trip with energised := energised, holdCount := hold } }

/-- Feeder 7 of busbar A publishes its BF flag. -/
def failing : State :=
  let k := content .closed .opened 3000
  withRow ((fullRow (-3000)).setBody 7 (.filled { k with status := { k.status with bf := true } } none)) yard

/-- The same BF source in JOINING, where nothing is energised. -/
def failingJoining : State := { failing with life := { failing.life with state := .joining } }

theorem witness_OutputDecided : (tripping false 0 true).closes cfg inOrder ∧
    (tripping false 0 true).table.openRow.isSome = true ∧
    (((tripping false 0 true).tripDecides cfg inOrder).trip.noCause = false ∧
      ((tripping false 0 true).tripDecides cfg inOrder).trip.energised = false ∧
      ((tripping false 0 true).tripDecides cfg inOrder).life.state = .present ∧
      closingPresent ((tripping false 0 true).tripDecides cfg inOrder).membership.entries cfg.station = true ∧
      ((tripping false 0 true).tripDecides cfg inOrder).events.records.length < 64 ∧
      (after (.closePoint inOrder) (tripping false 0 true)).life.state = .present) ∧
    (failingJoining.closes cfg inOrder ∧ (failingJoining.tripDecides cfg inOrder).trip.noCause = false ∧
      (failingJoining.tripDecides cfg inOrder).life.state ≠ .present) ∧
    (((tripping true 2 false).tripDecides cfg inOrder).trip.noCause = true ∧
      2 ≤ ((tripping true 2 false).tripDecides cfg inOrder).trip.holdCount) ∧
    ((tripping true 0 true).tripDecides cfg inOrder).trip.noCause = false ∧
    ((tripping true 1 false).tripDecides cfg inOrder).trip.holdCount ≤ 1 ∧
    ((tripping false 0 false).tripDecides cfg inOrder).trip.noCause = true := by decide +kernel
theorem witness_OutputDecided_causes :
    ((tripping false 0 true).tripDecides cfg inOrder).trip.causeZones = ⟨true, false⟩ ∧
    ((tripping false 0 true).tripDecides cfg inOrder).trip.confirmersA = 1 ∧
    (failing.tripDecides cfg inOrder).trip.bfSources = [7] ∧
    (leaving.tripDecides cfg inOrder).life.state.contributing = false := by decide +kernel

/-- The BF timer in a state, with a count, this current as the only scan of the peak history, and the initiation as given. -/
def bfAt (timer : BfTimer) (count : Nat) (current : Int) (initiation : Bool) : State :=
  { yard with
    trip := { yard.trip with
      bfTimer := timer, bfCount := count, bfFlag := timer == .expired, peakHistory := [⟨⟨0, current, 0⟩, .valid⟩] }
    acquisition := { yard.acquisition with initiation := ⟨initiation, none⟩ } }
def bfDecides (s : State) : State := (s.tripDecides cfg inOrder).decideOutput cfg

theorem witness_BreakerFailureTimerSteps :
    (∀ s ∈ [bfAt .idle 0 500 true, bfAt .idle 0 499 true, bfAt .running 5 499 true, bfAt .running 5 500 false,
        bfAt .running 2 (-500) true, bfAt .running 1 500 true, bfAt .expired 0 499 true, bfAt .expired 0 500 false],
      s.closes cfg inOrder ∧ (bfDecides s).life.state.contributing = true ∧ (bfDecides s).events.records.length < 64) ∧
    cfg.bfLevel ≤ (bfDecides (bfAt .idle 0 500 true)).trip.ownPeak ∧
    (bfDecides (bfAt .idle 0 500 true)).acquisition.initiation.value = true ∧
    ¬ cfg.bfLevel ≤ (bfDecides (bfAt .running 5 499 true)).trip.ownPeak ∧
    (bfDecides (bfAt .running 5 500 false)).trip.energised = false ∧
    (after (.closePoint inOrder) (bfAt .running 1 500 true)).trip.bfTimer = .expired ∧
    (after (.closePoint inOrder) (bfAt .expired 0 499 true)).trip.bfTimer = .idle := by decide +kernel
theorem witness_StationPromotedOrExcluded : returned.closes cfg inOrder ∧ returned.life.state = .joining ∧
    returned.table.openRow = some { Row.fresh 10 with returnedTwo := true } ∧
    returned.life.joinCount + 1 = cfg.joinRounds := by decide +kernel
theorem witness_StationPromotedOrExcluded_excluded : clashing.closes cfg inOrder ∧
    clashing.table.openRow = some { Row.fresh 10 with clash := true } ∧ clashing.life.state.contributing = true ∧
    clashing.life.clashCount = 2 ∧ clashing.tripsWhilePresent ∧ conflicting.closes cfg inOrder ∧
    conflicting.table.openRow = some { Row.fresh 10 with conflict := true } ∧ conflicting.life.state = .joining ∧
    conflicting.life.conflictCount + 1 = cfg.joinRounds ∧ conflicting.tripsWhilePresent := by decide +kernel
theorem witness_LinkHealthChanges : quietLane.checks cfg (.close inOrder) ∧ (quietLane.lane .one).up = true ∧
    (quietLane.lane .one).goodSeen = false ∧ cfg.linkDownRounds ≤ (quietLane.lane .one).silentRun + 1 :=
  ⟨show quietLane.closes cfg inOrder by decide +kernel, by decide +kernel⟩
theorem witness_LinkHealthChanges_up : liveLane.checks cfg (.localMark quietLines) ∧ (liveLane.lane .one).up = false ∧
    (liveLane.lane .one).goodSeen = true ∧ (liveLane.lane .one).liveRun = 1 :=
  ⟨show liveLane.powered = true ∧ liveLane.life.config = some cfg ∧ liveLane.timer.mode = .localMarks by decide +kernel,
    by decide +kernel⟩

/-! Ring -/

theorem witness_ContribAccepted : present.takesIn .one peerContrib peerContrib ∧ goodContribBytes peerContrib ∧
    present.life.config = some cfg ∧ present.life.state.working = true ∧ (readContrib peerContrib).origin ≠ cfg.station ∧
    present.entry 7 = some (entryIn present 7) ∧ (readContrib peerContrib).origin = 7 ∧
    present.life.checksum = some (readContrib peerContrib).checksum ∧
    (entryIn present 7).staleFor (readContrib peerContrib).round = false ∧
    present.table.openRow = some (Row.fresh 10) ∧ (Row.fresh 10).round = (readContrib peerContrib).round ∧
    (Row.fresh 10).body 7 = .empty ∧ 7 < (Row.fresh 10).slots.length := by decide +kernel

/-- A contribution of feeder 7 for a round, with this shared checksum, current and lowest-present number. -/
def contribWith (k sum : Round) (i : Int) (lowest : Nat) : List Byte :=
  setAge (contribBytes 7 k { content .closed .opened i with lowest := lowest } sum) 30

/-- Feeder 7 has LEFT in round 10. -/
def departed : State :=
  { present with membership := { present.membership with entries := present.membership.entries.map (fun e =>
      if e.station = 7 then { e with state := .left, leaveRound := some 10 } else e) } }
def disputed : State := withRow ((Row.fresh 10).setBody 7 .disputed) present

theorem witness_ArrivalsClassed :
    (∀ bs ∈ [contribOf 7 10, contribOf 3 10, contribOf 7 9, contribOf 7 40000, contribWith 10 0 3000 5, contribWith 10 checksum 1 5],
      present.takesIn .one bs bs ∧ goodContribBytes bs ∧ (readContrib bs).origin ≠ cfg.station) ∧
    present.table.openRow = some (Row.fresh 10) ∧ present.entry 3 = none ∧ present.entry 7 = some (entryIn present 7) ∧
    present.life.checksum ≠ some (readContrib (contribWith 10 0 3000 5)).checksum ∧
    present.life.checksum = some (readContrib (contribOf 7 9)).checksum ∧
    ((entryIn departed 7).state = .left ∧ (entryIn departed 7).leaveRound = some 10 ∧
      ¬ 1 ≤ ((readContrib (contribOf 7 10)).round - 10).toNat) ∧
    (yard.table.openRow = some (fullRow (-3000)) ∧
      (fullRow (-3000)).content 7 = some (readContrib (contribOf 7 10)).content ∧
      (fullRow (-3000)).content 7 ≠ some (readContrib (contribWith 10 checksum 1 5)).content) ∧
    disputed.table.openRow = some ((Row.fresh 10).setBody 7 .disputed) ∧
    ((Row.fresh 10).setBody 7 .disputed).body 7 = .disputed ∧
    (present.table.newest = some (Row.fresh 9) ∧ (Row.fresh 9).round = (readContrib (contribOf 7 9)).round) ∧
    (station .listen .numbered).takesIn .one peerContrib peerContrib ∧
    (entryIn present 7).outOfWindowRun ≠ cfg.lostRounds := by decide +kernel

/-- Feeder 7 has been out of window for LOST_ROUNDS rows; the station itself is the lowest PRESENT. -/
def island : State :=
  { present with membership := { present.membership with entries := present.membership.entries.map (fun e =>
      if e.station = 7 then { e with state := .lost, outOfWindowRun := 4 } else e) } }
def lower : List Byte := contribWith 40000 checksum 3000 1

theorem witness_CaptureAndRecapture : (listening 3).takesIn .one peerContrib peerContrib ∧ goodContribBytes peerContrib ∧
    (listening 3).life.config = some cfg ∧ (listening 3).timer.mode ≠ .numbered ∧ (listening 3).life.state = .listen ∧
    (after (.contribReceived .one peerContrib) (listening 3)).timer.captured = true ∧
    (after (.contribReceived .one (contribOf 3 10)) (listening 3)).timer.captured = false ∧
    island.takesIn .one lower lower ∧ goodContribBytes lower ∧ island.life.state = .present ∧
    island.entry 7 = some (entryIn island 7) ∧ (entryIn island 7).staleFor 40000 = false ∧
    island.life.checksum = some (readContrib lower).checksum ∧ (readContrib lower).round = 40000 ∧
    island.table.newest = some (Row.fresh 9) ∧ island.table.older = none ∧ (readContrib lower).content.sender = .present ∧
    (entryIn island 7).outOfWindowRun = cfg.lostRounds ∧ (readContrib lower).content.lowest < island.lowestPresent ∧
    island.trip.energised = false ∧ island.trip.bfTimer = .idle ∧ island.events.records.length ≤ 60 ∧
    (after (.contribReceived .one lower) island).timer.round = 40000 := by decide +kernel

/-- The own contribution as it comes back: what stands in the own slot of the full row. -/
def ownContrib : List Byte := setAge (contribBytes 5 10 (content .closed .opened (-3000)) checksum) 80

theorem witness_OwnContribReturns : yard.takesIn .two ownContrib ownContrib ∧ goodContribBytes ownContrib ∧
    yard.life.state.working = true ∧ (readContrib ownContrib).origin = cfg.station ∧
    yard.table.openRow = some (fullRow (-3000)) ∧ (fullRow (-3000)).round = (readContrib ownContrib).round ∧
    ((fullRow (-3000)).content cfg.station = some (readContrib ownContrib).content ∧
      yard.life.checksum = some (readContrib ownContrib).checksum) ∧
    ¬ ((fullRow 0).content cfg.station = some (readContrib ownContrib).content ∧
      yard.life.checksum = some (readContrib ownContrib).checksum) := by decide +kernel

def hopsOf (n : Nat) : List Byte := setAge (setHops peerContrib n) 30
def damaged : List Byte := peerContrib.set 23 0#8

theorem witness_FramesForwardedOrDropped : present.takesIn .one damaged damaged ∧ damaged.head? = some leadContrib ∧
    damaged.length = 24 ∧ crcGood damaged = false ∧ crcGood (peerLeave.set 11 0#8) = false ∧
    present.takesIn .one (hopsOf 39) (hopsOf 39) ∧ goodContribBytes (hopsOf 39) ∧ 39 ≤ frameHops (hopsOf 39) ∧
    goodContribBytes (hopsOf 38) ∧ frameHops (hopsOf 38) ≤ 38 ∧ frameOrigin (hopsOf 38) ≠ present.ownNumber ∧
    (present.lane .one).queue = [] ∧ (present.lane .one).transmitter = .idle ∧ (present.lane .one).clearPending = false ∧
    (pendingClear.lane .two).queue.length < 8 ∧ (pendingClear.lane .two).transmitter ≠ .idle ∧
    goodLeaveBytes peerLeave ∧ pendingClear.takesIn .two peerLeave peerLeave := by decide +kernel
theorem witness_LeaveTaken : yard.takesIn .two peerLeave peerLeave ∧ goodLeaveBytes peerLeave ∧
    (readLeave peerLeave).origin ≠ yard.ownNumber ∧ yard.life.state.working = true ∧
    yard.entry (readLeave peerLeave).origin = some (entryIn yard 7) ∧
    (readLeave peerLeave).check = (yard.life.checksum.getD 0).setWidth 8 ∧ (entryIn yard 7).state ≠ .left := by decide +kernel

def waiting : State := laneIs .one (fun x => { x with receiver := .waitMark false }) present

theorem witness_ReceiverFollowsItsLine : present.powered = true ∧ present.receives = true ∧
    (present.lane .one).receiver = .hunt ∧ frameLength 0x55#8 = none ∧ (waiting.lane .one).receiver = .waitMark false ∧
    present.inFrame .one (peerContrib.take 1) = true ∧ present.inFrame .one (peerContrib.take 23) = true ∧
    present.inFrame .one peerContrib = false ∧ clearFollows (present.lane .one).receiver [] = true ∧
    clearFollows (waiting.lane .one).receiver [] = true := by decide +kernel
theorem witness_TransmissionCompletes : sendingLeave.powered = true ∧ (sendingLeave.lane .one).transmitter = .sending ∧
    (sendingLeave.lane .one).queue = [⟨.own, leaveOf 5 10⟩] ∧ QueuedFrame.isOwnLeave ⟨.own, leaveOf 5 10⟩ = true ∧
    sendingLeave.life.state = .leaving ∧ sendingLeave.life.leaveReports = 1 ∧
    QueuedFrame.isOwnLeave ⟨.own, contribOf 5 10⟩ = false := by decide +kernel
theorem witness_TransmitterMovesOn :
    (laneIs .one (fun x => { x with transmitter := .clearing }) present).powered = true ∧
    ((laneIs .one (fun x => { x with transmitter := .clearing }) present).lane .one).transmitter = .clearing ∧
    (pendingClear.lane .two).transmitter = .gap ∧ (pendingClear.lane .two).clearPending = true ∧
    ((laneIs .one (fun x => { x with transmitter := .gap, queue := [⟨.own, contribOf 5 10⟩] }) present).lane .one).queue =
      [⟨.own, contribOf 5 10⟩] ∧
    ((laneIs .one (fun x => { x with transmitter := .gap }) present).lane .one).queue = [] := by decide +kernel
theorem witness_TransmitterMovesOn_age : QueuedFrame.whole ⟨.own, contribOf 5 10⟩ ∧ QueuedFrame.whole ⟨.copy 4990, peerLeave⟩ ∧
    (atPhase 60 present).elapsedSince 10 = 60 ∧ (atPhase 60 present).timer.mode = .numbered ∧
    frameAge ((atPhase 60 present).dress ⟨.own, contribOf 5 10⟩).bytes = 60 ∧
    frameAge ((atPhase 60 present).dress ⟨.copy 4990, peerLeave⟩).bytes = 3 + 70 + 2 + 3 ∧
    faulty.life.config = none ∧ frameAge (faulty.dress ⟨.copy 0, peerLeave⟩).bytes = 3 ∧
    (atPhase 60 present).elapsedSince 11 = -940 ∧ (atPhase 60 present).elapsedSince 8 = 2060 ∧
    (atPhase 60 present).elapsedSince 7 = 60 ∧ (settling 5).elapsedSince 7 = 0 ∧
    (after (.contribReceived .one peerContrib) (listening 3)).elapsedSince 10 = 37 := by decide +kernel

def eightWaiting (s : State) : State :=
  let full : LaneState → LaneState := fun x => { x with transmitter := .sending, queue := List.replicate 8 ⟨.own, contribOf 5 9⟩ }
  laneIs .one full (laneIs .two full s)

theorem witness_LeavingEnds : (matched (eightWaiting joining)).hears (requestBytes kindLeave []) (requestBytes kindLeave []) ∧
    (matched (eightWaiting joining)).life.state = .joining ∧ 8 ≤ (matched (eightWaiting joining)).ring.one.queue.length ∧
    8 ≤ (matched (eightWaiting joining)).ring.two.queue.length := by decide +kernel

/-! Maintenance line -/

theorem witness_BreakAbandons : present.powered = true ∧ present.link.rate = none ∧ present.link.response = none ∧
    exec (.supplyLow 2500) (answering .restart present) = .next (after (.supplyLow 2500) (answering .restart present)) ∧
    (∀ p ∈ requestCommands [], (matched lowSupply).hears (requestBytes p.1 [1#8]) (requestBytes p.1 [1#8])) ∧
    (matched lowSupply).hears (requestBytes kindStatus []) (requestBytes kindStatus []) ∧ (matched lowSupply).life.state = .hold :=
  ⟨rfl, rfl, rfl, rfl, by decide +kernel⟩
theorem witness_RateMatches : (awaiting present).powered = true ∧ (awaiting present).link.awaitingMatch = true ∧
    Rate.b9600.within3 965625 = true ∧ Rate.b9600.within3 965626 = false ∧ Rate.b921600.within3 9473 = true ∧
    Rate.b9600 ∈ listedRates ∧ (∀ r ∈ listedRates, r.within3 700000 = false) := by decide +kernel
theorem witness_LinkReceiver : (matched present).powered = true ∧ (matched present).linkGathered [] = some [] ∧
    (matched present).linkGathered [0x11#8] = some [0x11#8] ∧ openRequest [0x11#8] = true ∧
    (matched present).linkGathered [0x11#8, 251#8] = some [0x11#8, 251#8] ∧
    (after (.mlFramingError []) (matched present)).link.receiver = .skipping := by decide +kernel
theorem witness_ReportsAnswered : ∀ k ∈ [kindStatus, kindRound, kindMembers, kindAckTrip, kindLeave, kindRestart],
    (matched present).hears (requestBytes k []) (requestBytes k []) := by decide +kernel
theorem witness_EventsReadAndRemoved :
    (∀ n ∈ [1#8, 16#8, 0#8, 17#8], (matched present).hears (requestBytes kindEvents [n]) (requestBytes kindEvents [n])) ∧
    (answering .nothing present).link.response.map Response.onComplete = some .nothing := by decide +kernel
theorem witness_UnfitRequests : knownKind 0x15#8 = false ∧
    (matched present).hears (requestBytes 0x15#8 [1#8]) (requestBytes 0x15#8 [1#8]) ∧
    (matched present).hears [0x11#8, 0#8, 1#8, 2#8] [0x11#8, 0#8, 1#8, 2#8] ∧ wholeRequest [0x11#8, 0#8, 1#8, 2#8] = true ∧
    crcGood [0x11#8, 0#8, 1#8, 2#8] = false ∧
    (∀ p ∈ (0x15#8, Instr.powerLoss) :: requestCommands [],
      (answering .nothing present).linkGathered (requestBytes p.1 []) = some (requestBytes p.1 [])) ∧
    (answering .nothing present).linkGathered [0x11#8, 0#8, 1#8, 2#8] = some [0x11#8, 0#8, 1#8, 2#8] ∧
    (answering .nothing present).link.response.isSome = true ∧
    (∀ p ∈ requestCommands [], (matched present).hears (requestBytes p.1 [1#8, 2#8]) (requestBytes p.1 [1#8, 2#8])) ∧
    (matched present).hears (requestBytes kindEvents []) (requestBytes kindEvents []) ∧
    (matched present).hears (requestBytes kindRelease [8#8]) (requestBytes kindRelease [8#8]) ∧
    (matched present).hears (requestBytes kindRelease [0#8]) (requestBytes kindRelease [0#8]) := by decide +kernel
theorem witness_TripAcknowledged : (matched present).trip.energised = false ∧
    (matched (tripping true 2 true)).trip.energised = true ∧
    (matched (tripping true 2 true)).hears (requestBytes kindAckTrip []) (requestBytes kindAckTrip []) ∧
    (matched (tripping true 2 true)).hears (requestBytes kindRestart []) (requestBytes kindRestart []) := by decide +kernel
theorem witness_ReleaseJudged :
    (∀ v ∈ [1#8, 7#8], (matched latchedA).hears (requestBytes kindRelease [v]) (requestBytes kindRelease [v])) ∧
    (matched latchedA).life.config = some cfg ∧ (matched latchedA).life.state = .present ∧
    ((matched latchedA).zones.get .a).latch = true ∧
    (((matched latchedA).zones.get .a).phases.get .a).operate = some 199 ∧ 199 < cfg.supLevel ∧
    ((matched latchedA).zones.get .b).latch = false ∧ (zoneSetOf 7).has .b = true ∧ (zoneSetOf 1).has .b = false ∧
    joining.life.state ≠ .present := by decide +kernel
theorem witness_LeaveJudged : (matched joining).hears (requestBytes kindLeave []) (requestBytes kindLeave []) ∧
    joining.life.state = .joining ∧ (matched present).life.state = .present ∧ (matched present).trip.energised = false ∧
    (matched present).trip.bfTimer = .idle ∧ (matched present).trip.bfFlag = false ∧
    (matched present).ring.one.queue.length < 8 ∧ (matched (bfRunning 1)).trip.bfTimer ≠ .idle ∧
    (matched starting).life.state.contributing = false ∧
    (matched starting).hears (requestBytes kindLeave []) (requestBytes kindLeave []) := by decide +kernel

/-! Invariants: the reset state meets them all, and steps to a next state. -/

theorem witness_invariants : yard.queuesBounded ∧ yard.queuesWhole ∧ yard.eventsBounded ∧ yard.tripsWhilePresent ∧
    yard.bfFollowsTimer ∧ yard.modeFollows ∧ yard.oneRowOpen ∧ yard.zonesAgree ∧ yard.ownEntryFollows ∧
    yard.windowsBounded := by decide +kernel
theorem witness_step : step { yard with pending := [.closePoint inOrder] } = .next (after (.closePoint inOrder) yard) := rfl

end Sys2Proof.Tests
end

section
/-! PROOFS. The completion of a scan: the reference check row by row, the records of its two changes, and what is handed to the Trip
Unit (R20, R24, R25, R29). -/

namespace Sys2Proof.Machine

/-! ## The reference check -/

section
variable {a : Acquisition}

theorem Acquisition.checkRef_valid_good (hq : a.quality = .valid) : a.checkRef true = { a with missRun := 0 } := by
  simp [Acquisition.checkRef, hq]

theorem Acquisition.checkRef_first_miss (hq : a.quality = .valid) (hm : a.missRun = 0) :
    a.checkRef false = { a with missRun := 1 } := by
  simp [Acquisition.checkRef, hq, hm]

theorem Acquisition.checkRef_further_miss (hq : a.quality = .valid) (hm : a.missRun ≠ 0) :
    a.checkRef false = { a with quality := .invalid, missRun := 0, goodRun := 0 } := by
  simp [Acquisition.checkRef, hq, hm]

theorem Acquisition.checkRef_good_below (hq : a.quality = .invalid) (hg : a.goodRun < 15) :
    a.checkRef true = { a with goodRun := a.goodRun + 1 } := by
  simp [Acquisition.checkRef, hq, hg]

theorem Acquisition.checkRef_good_enough (hq : a.quality = .invalid) (hg : 15 ≤ a.goodRun) :
    a.checkRef true = { a with quality := .valid, goodRun := 0, missRun := 0 } := by
  simp [Acquisition.checkRef, hq, Nat.not_lt.mpr hg]

theorem Acquisition.checkRef_invalid_miss (hq : a.quality = .invalid) : a.checkRef false = { a with goodRun := 0 } := by
  simp [Acquisition.checkRef, hq]

end

/-- The unit with a scan's values stored and the pending scan begun, before the reference check (R20, R21). -/
def Acquisition.stored (a : Acquisition) (c : Configuration) (n : ScanCounts) : Acquisition :=
  { a with ref := some n.ref.toInt, currents := some (scanCurrents (some c) n), scan := a.pendingScan, pendingScan := none }

section
variable (a : Acquisition) (c : Configuration) (n : ScanCounts)

@[simp] theorem Acquisition.stored_quality : (a.stored c n).quality = a.quality := rfl
@[simp] theorem Acquisition.stored_missRun : (a.stored c n).missRun = a.missRun := rfl
@[simp] theorem Acquisition.stored_goodRun : (a.stored c n).goodRun = a.goodRun := rfl

theorem Acquisition.complete_configured : a.complete (some c) n = (a.stored c n).checkRef (refGood c n.ref.toInt) := rfl

end

/-! ## The completion of a scan -/

section
variable {s : State} {n : ScanCounts} {c : Configuration} {tag : ScanTag}

theorem State.scanUnit_acquisition : (s.scanUnit n).acquisition = s.acquisition.complete s.life.config n := by
  simp [State.scanUnit]

theorem State.scanComplete_configured (hc : s.life.config = some c) (hs : s.acquisition.scan = some tag) :
    s.scanComplete n =
      (s.scanUnit n).handOn c tag (scanCurrents (some c) n) (s.scanUnit n).acquisition.quality := by
  simp [State.scanComplete, hc, hs]

/-- The handing on of a result leaves the unit alone: what a scan makes of it is the reference check (R25). -/
theorem State.scanComplete_acquisition (hc : s.life.config = some c) (hs : s.acquisition.scan = some tag) :
    (s.scanComplete n).acquisition = (s.acquisition.stored c n).checkRef (refGood c n.ref.toInt) := by
  simp [State.scanComplete_configured hc hs, State.scanUnit_acquisition, hc, Acquisition.complete_configured]

/-- The Event List after a scan: the record of a change of quality, where there is one, and nothing else (R25). -/
theorem State.scanComplete_events (hc : s.life.config = some c) (hs : s.acquisition.scan = some tag) :
    (s.scanComplete n).events =
      (s.offerAll (qualityDraft c.station s.acquisition.quality (s.scanComplete n).acquisition.quality n.ref.toInt)).events := by
  have hown : s.ownNumber = c.station := by simp [State.ownNumber, hc]
  simp only [State.scanComplete_configured hc hs, State.handOn_frame, State.scanUnit_acquisition]
  rw [State.scanUnit, hown]
  cases s.acquisition.quality <;> cases (s.acquisition.complete s.life.config n).quality <;> rfl

theorem State.scanComplete_events_kept (hc : s.life.config = some c) (hs : s.acquisition.scan = some tag)
    (hq : (s.scanComplete n).acquisition.quality = s.acquisition.quality) : (s.scanComplete n).events = s.events := by
  rw [State.scanComplete_events hc hs, hq]
  cases s.acquisition.quality <;> rfl

theorem State.scanComplete_events_fault (hc : s.life.config = some c) (hs : s.acquisition.scan = some tag)
    (hold : s.acquisition.quality = .valid) (hnew : (s.scanComplete n).acquisition.quality = .invalid) :
    (s.scanComplete n).events = s.events.offer
      { kind := .acqFault, round := s.timer.round, subject := c.station, detail := signed16 n.ref.toInt } := by
  rw [State.scanComplete_events hc hs, hold, hnew]
  rfl

theorem State.scanComplete_events_restored (hc : s.life.config = some c) (hs : s.acquisition.scan = some tag)
    (hold : s.acquisition.quality = .invalid) (hnew : (s.scanComplete n).acquisition.quality = .valid) :
    (s.scanComplete n).events = s.events.offer
      { kind := .acqRestored, round := s.timer.round, subject := c.station, detail := signed16 n.ref.toInt } := by
  rw [State.scanComplete_events hc hs, hold, hnew]
  rfl

/-- A round's scan in JOINING or PRESENT gives the peak history its currents with the quality after the check (R29, R137). -/
theorem State.scanComplete_peakHistory {k : Round} (hc : s.life.config = some c)
    (hs : s.acquisition.scan = some (.round k)) (hst : s.life.state.contributing = true) :
    (s.scanComplete n).trip.peakHistory = lastN c.w (s.trip.peakHistory ++
      [{ currents := scanCurrents (some c) n, quality := (s.scanComplete n).acquisition.quality }]) := by
  have hhand : (s.scanComplete n).acquisition.quality = (s.scanUnit n).acquisition.quality := by
    simp [State.scanComplete_configured hc hs]
  rw [hhand, State.scanComplete_configured hc hs]
  simp [State.handOn, hst, TripUnit.appendPeak]

/-! ## The three commands -/

theorem live_powered {f : State → State} (hp : s.powered = true) : live s f = .next (f s) := by simp [live, hp]

theorem exec_scanComplete (hp : s.powered = true) : exec (.scanComplete n) s = .next (s.scanComplete n) :=
  live_powered (f := fun s => s.scanComplete n) hp

theorem exec_acqFault (hp : s.powered = true) (hold : s.acquisition.quality = .valid)
    (hnew : (s.scanComplete n).acquisition.quality = .invalid) : exec (.acqFault n) s = .next (s.scanComplete n) := by
  have hb : s.bringsQuality n .valid .invalid = true := by simp [State.bringsQuality, hold, hnew]
  exact (live_powered hp).trans (by rw [if_pos hb])

theorem exec_acqRestored (hp : s.powered = true) (hold : s.acquisition.quality = .invalid)
    (hnew : (s.scanComplete n).acquisition.quality = .valid) : exec (.acqRestored n) s = .next (s.scanComplete n) := by
  have hb : s.bringsQuality n .invalid .valid = true := by simp [State.bringsQuality, hold, hnew]
  exact (live_powered hp).trans (by rw [if_pos hb])

end

/-- Settles O16: the reference check decides quality and runs in each row of R25's table; the records and the two commands follow
from the quality before and after it. -/
theorem qualityFollowsReference : Obligations.QualityFollowsReference := by
  intro n s c tag hp hc hs
  have hacq := State.scanComplete_acquisition (n := n) hc hs
  refine ⟨s.scanComplete n, exec_scanComplete hp, ?validGood, ?firstMiss, ?fault, ?goodBelow, ?restored, ?invalidMiss, ?peak⟩
  case validGood =>
    intro hq hgood
    rw [hgood] at hacq
    have hrow := hacq.trans (Acquisition.checkRef_valid_good hq)
    exact ⟨by simp [hrow, hq], by simp [hrow], State.scanComplete_events_kept hc hs (by simp [hrow])⟩
  case firstMiss =>
    intro hq hbad hm
    rw [hbad] at hacq
    have hrow := hacq.trans (Acquisition.checkRef_first_miss hq hm)
    exact ⟨by simp [hrow, hq], by simp [hrow], State.scanComplete_events_kept hc hs (by simp [hrow])⟩
  case fault =>
    intro hq hbad hm
    rw [hbad] at hacq
    have hrow := hacq.trans (Acquisition.checkRef_further_miss hq (by simp [hm]))
    have hnew : (s.scanComplete n).acquisition.quality = .invalid := by simp [hrow]
    exact ⟨exec_acqFault hp hq hnew, hnew, by simp [hrow], by simp [hrow], State.scanComplete_events_fault hc hs hq hnew⟩
  case goodBelow =>
    intro hq hgood hrun
    rw [hgood] at hacq
    have hrow := hacq.trans (Acquisition.checkRef_good_below hq hrun)
    exact ⟨by simp [hrow, hq], by simp [hrow], State.scanComplete_events_kept hc hs (by simp [hrow])⟩
  case restored =>
    intro hq hgood hrun
    rw [hgood] at hacq
    have hrow := hacq.trans (Acquisition.checkRef_good_enough hq (by simp [hrun]))
    have hnew : (s.scanComplete n).acquisition.quality = .valid := by simp [hrow]
    exact ⟨exec_acqRestored hp hq hnew, hnew, by simp [hrow], by simp [hrow],
      State.scanComplete_events_restored hc hs hq hnew⟩
  case invalidMiss =>
    intro hq hbad
    rw [hbad] at hacq
    have hrow := hacq.trans (Acquisition.checkRef_invalid_miss hq)
    exact ⟨by simp [hrow, hq], by simp [hrow], State.scanComplete_events_kept hc hs (by simp [hrow])⟩
  case peak =>
    rintro k rfl hst
    exact State.scanComplete_peakHistory hc hs hst

end Sys2Proof.Machine
end

section
/-! PROOFS. The quantities of the zones at a close: where the Zone Evaluator stands in a valid close order, what its steps leave of
O, S and the condition, and the range of O and S (R116, R120). -/

namespace Sys2Proof.Machine

/-! ## One block's place in a close order -/

/-- A list that holds an item once is what stands before it, the item, and a rest without it. -/
theorem CloseOrder.split_of_count_eq_one {b : CloseBlock} {o : CloseOrder} (h : o.count b = 1) :
    ∃ post, o = o.takeWhile (· != b) ++ b :: post ∧ b ∉ post := by
  induction o with
  | nil => simp at h
  | cons x o ih =>
    by_cases hx : x = b
    · subst hx
      exact ⟨o, by simp, by simpa [List.count_eq_zero] using h⟩
    · obtain ⟨post, ho, hpost⟩ := ih (by rwa [List.count_cons_of_ne hx] at h)
      exact ⟨post, by rw [List.takeWhile_cons_of_pos (by simpa using hx), List.cons_append, ← ho], hpost⟩

/-- A valid order takes every block once. -/
theorem CloseOrder.count_of_valid {o : CloseOrder} (h : o.valid = true) (b : CloseBlock) : o.count b = 1 := by
  simp only [CloseOrder.valid, Bool.and_eq_true, beq_iff_eq] at h
  obtain ⟨⟨⟨hchain, hhealth⟩, htimer⟩, hcontroller⟩ := h
  have hchained (hb : b.chained = true) : o.count b = 1 := by
    rw [← List.count_filter hb, hchain]
    cases b with
    | membership | replica | zones | trip => rfl
    | health | timer | controller => cases hb
  cases b with
  | health => exact hhealth
  | timer => exact htimer
  | controller => exact hcontroller
  | membership | replica | zones | trip => exact hchained rfl

/-- A close in a valid order is one block's action on the state it finds, then blocks that are not this one. -/
theorem State.closeThrough_split (s : State) (c : Configuration) {o : CloseOrder} (h : o.valid = true) (b : CloseBlock) :
    ∃ post : List CloseBlock, b ∉ post ∧ s.closeThrough c o = post.foldl (closeBlock c) (closeBlock c (s.closeBefore c o b) b) := by
  obtain ⟨post, ho, hpost⟩ := CloseOrder.split_of_count_eq_one (CloseOrder.count_of_valid h b)
  refine ⟨post, hpost, ?_⟩
  conv_lhs => rw [State.closeThrough, ho, List.foldl_append, List.foldl_cons]
  rfl

/-! ## The close point -/

section
variable {s : State} {c : Configuration} {o : CloseOrder} {row : Row}

theorem exec_closePoint (h : s.closes c o) : exec (.closePoint o) s = .next (s.closeThrough c o) := by
  obtain ⟨hp, hc, hdue, hvalid⟩ := h
  have hclose : s.closePoint o = s.closeThrough c o := by simp [State.closePoint, hc, hdue, hvalid]
  exact (live_powered (f := fun s => s.closePoint o) hp).trans (by rw [hclose])

/-- Every block of a close finds the row just closed as the newest one (R68). -/
theorem State.closeBefore_newest (h : s.table.openRow = some row) (b : CloseBlock) :
    (s.closeBefore c o b).table.newest = some row := by
  simp [State.closeBefore, State.closeThrough, State.rowClosed, State.passTo, RoundTable.close, h]

end

/-- The Zone Evaluator alone writes the zones at a close. -/
theorem closeBlock_zones (c : Configuration) (s : State) {b : CloseBlock} (h : b ≠ .zones) :
    (closeBlock c s b).zones = s.zones := by
  cases b with
  | zones => contradiction
  | health | membership | replica | trip | timer | controller => simp [closeBlock]

theorem closeBlocks_zones (c : Configuration) (s : State) {bs : List CloseBlock} (h : .zones ∉ bs) :
    (bs.foldl (closeBlock c) s).zones = s.zones := by
  induction bs generalizing s with
  | nil => rfl
  | cons b bs ih =>
    obtain ⟨hb, hbs⟩ := not_or.mp (mt List.mem_cons.mpr h)
    exact (ih _ hbs).trans (closeBlock_zones c s (Ne.symm hb))

/-- The Zone Evaluator's action on a closed row, zone by zone. -/
theorem State.zonesClose_get {t : State} {row : Row} (h : t.table.newest = some row) (c : Configuration) (z : Zone) :
    (t.zonesClose c).zones.get z = (zoneSteps c (zoneStart c t row z).1 (zoneStart c t row z).2).zone := by
  simp only [State.zonesClose, h, State.offerAll_frame]
  cases z with
  | a => rfl
  | cz => rfl
  | b => cases hm : t.replica.held.merged <;> simp [ZoneEvaluator.get, zonesOutcome, zoneStart, hm]

/-- What a close leaves in a zone's record: the zone's steps, from the inputs and record the close starts them with. -/
theorem State.closeThrough_zone {s : State} {c : Configuration} {o : CloseOrder} {row : Row} (ho : o.valid = true)
    (hrow : s.table.openRow = some row) (z : Zone) :
    (s.closeThrough c o).zones.get z =
      (zoneSteps c (s.zoneAtClose c o row z).1 (s.zoneAtClose c o row z).2).zone := by
  obtain ⟨post, hpost, hsplit⟩ := s.closeThrough_split c ho .zones
  rw [hsplit, closeBlocks_zones c _ hpost]
  exact State.zonesClose_get (State.closeBefore_newest hrow .zones) c z

/-- Every zone reads the row just closed, and CZ is the check zone. -/
theorem State.zoneAtClose_row_check (s : State) (c : Configuration) (o : CloseOrder) (row : Row) (z : Zone) :
    (s.zoneAtClose c o row z).1.row = row ∧ (s.zoneAtClose c o row z).1.check = decide (z = .cz) := by
  cases z with
  | a | cz => exact ⟨rfl, rfl⟩
  | b => unfold State.zoneAtClose zoneStart; dsimp only; split <;> exact ⟨rfl, rfl⟩

/-! ## O, S and the condition through a zone's steps -/

/-- O, S and the condition of a phase (R116). -/
def PhaseRecord.quantities (p : PhaseRecord) : Option Nat × Option Nat × Option Bool := (p.operate, p.restraint, p.condition)

@[simp] theorem PhaseRecord.quantities_eq {p : PhaseRecord} {o s : Option Nat} {b : Option Bool} :
    p.quantities = (o, s, b) ↔ p.operate = o ∧ p.restraint = s ∧ p.condition = b := by
  simp [PhaseRecord.quantities]

@[simp] theorem Tri.get_map {α β : Type} (f : α → β) (t : Tri α) (p : Phase) : (t.map f).get p = f (t.get p) := by
  cases p <;> rfl

section
variable (c : Configuration) (x : ZoneInputs) (z : ZoneRecord) (p : PhaseRecord) (ph : Phase)

@[simp] theorem PhaseRecord.clearWindow_quantities : p.clearWindow.quantities = p.quantities := rfl

@[simp] theorem phaseRun_quantities : (phaseRun c p).quantities = p.quantities := by
  unfold phaseRun; split <;> rfl

@[simp] theorem phaseJudge_quantities (evaluated stuck : Bool) : (phaseJudge c evaluated stuck p).quantities = p.quantities := by
  cases evaluated <;> rfl

@[simp] theorem ZoneRecord.clearWindows_quantities : (z.clearWindows.phases.get ph).quantities = (z.phases.get ph).quantities := by
  simp [ZoneRecord.clearWindows]

@[simp] theorem ZoneRecord.zeroRuns_quantities : (z.zeroRuns.phases.get ph).quantities = (z.phases.get ph).quantities := by
  cases ph <;> rfl

theorem stepRelease_quantities : ((stepRelease c x z).phases.get ph).quantities = (z.phases.get ph).quantities := by
  unfold stepRelease; split
  · exact z.zeroRuns_quantities ph
  · rfl

theorem stepRuns_quantities : ((stepRuns c x z).phases.get ph).quantities = (z.phases.get ph).quantities := by
  unfold stepRuns; split <;> simp

theorem stepLatch_quantities : ((stepLatch c x z).phases.get ph).quantities = (z.phases.get ph).quantities := by
  unfold stepLatch; split
  · rfl
  · exact z.zeroRuns_quantities ph

theorem stepJudge_quantities : ((stepJudge c x z).phases.get ph).quantities = (z.phases.get ph).quantities := by
  simp [stepJudge]

theorem completeRow_phases : (completeRow c x z).1.phases = z.phases := by
  unfold completeRow; repeat' split
  all_goals rfl

theorem incompleteRow_phases : (incompleteRow z).1.phases = z.phases := by
  unfold incompleteRow; repeat' split
  all_goals rfl

/-- The state transition leaves the phases alone (R121 to R125). -/
theorem stepState_phases : (stepState c x z).1.phases = z.phases := by
  unfold stepState
  split
  · rfl
  · split
    · rfl
    · split
      · exact completeRow_phases c x z
      · exact incompleteRow_phases z

/-- Steps 4 to 7 and the clearing on leaving service keep what step 3 computed (R120). -/
theorem zoneSteps_quantities :
    ((zoneSteps c x z).zone.phases.get ph).quantities = ((zoneMeasured c x z).phases.get ph).quantities := by
  have hjudged : ((zoneJudged c x z).phases.get ph).quantities = ((zoneMeasured c x z).phases.get ph).quantities := by
    rw [zoneJudged, stepJudge_quantities, stepLatch_quantities, zoneSupervised, stepRuns_quantities, stepRelease_quantities]
  simp only [zoneSteps]
  split
  · rw [ZoneRecord.clearWindows_quantities, stepState_phases, hjudged]
  · rw [stepState_phases, hjudged]

theorem stepQuantities_get : (stepQuantities c x z).phases.get ph = phaseQuantities c x ph (z.phases.get ph) := by
  cases ph <;> rfl

variable {x} in
theorem zoneSteps_quantities_complete (h : x.complete = true) : ((zoneSteps c x z).zone.phases.get ph).quantities =
    (some (operateQuantity x.row ph x.members), some (restraintQuantity x.row ph x.members),
      some (biasCondition c x.check (operateQuantity x.row ph x.members) (restraintQuantity x.row ph x.members))) := by
  rw [zoneSteps_quantities, zoneMeasured, stepQuantities_get, phaseQuantities, if_pos h]
  rfl

variable {x} in
theorem zoneSteps_quantities_incomplete (h : x.complete = false) :
    ((zoneSteps c x z).zone.phases.get ph).quantities = (none, none, none) := by
  rw [zoneSteps_quantities, zoneMeasured, stepQuantities_get, phaseQuantities, if_neg (by simp [h])]
  rfl

end

/-! ## O and S as sums, and their range -/

section
variable (row : Row) (p : Phase) (ms : List Member)

theorem operateQuantity_eq_sum :
    operateQuantity row p ms = ((ms.map (fun m : Member => polaritySign m.sign * memberCurrent row p m)).sum).natAbs := by
  rw [operateQuantity, List.sum_eq_foldl]

theorem restraintQuantity_eq_sum : restraintQuantity row p ms = (ms.map (fun m => (memberCurrent row p m).natAbs)).sum := by
  rw [restraintQuantity, List.sum_eq_foldl]

theorem natAbs_polaritySign_mul (q : Polarity) (i : Int) : (polaritySign q * i).natAbs = i.natAbs := by
  cases q <;> simp [polaritySign]

/-- O is at most S: the triangle inequality over the members. -/
theorem operateQuantity_le_restraintQuantity : operateQuantity row p ms ≤ restraintQuantity row p ms := by
  rw [operateQuantity_eq_sum, restraintQuantity_eq_sum]
  induction ms with
  | nil => simp
  | cons m ms ih =>
    simp only [List.map_cons, List.sum_cons]
    exact (Int.natAbs_add_le _ _).trans (Nat.add_le_add (natAbs_polaritySign_mul _ _).le ih)

variable {row p ms} in
theorem restraintQuantity_le {n i : Nat} (hlen : ms.length ≤ n) (hcur : ∀ m ∈ ms, (memberCurrent row p m).natAbs ≤ i) :
    restraintQuantity row p ms ≤ n * i := by
  rw [restraintQuantity_eq_sum]
  have hsum := List.sum_le_card_nsmul (ms.map fun m => (memberCurrent row p m).natAbs) i (by simpa using hcur)
  rw [List.length_map, smul_eq_mul] at hsum
  exact hsum.trans (Nat.mul_le_mul_right i hlen)

end

/-- Settles O24: the close leaves in each zone what its own steps come to, steps 4 to 7 keep the quantities of step 3, and O ≤ S ≤
members · current bounds both. -/
theorem zoneQuantities : Obligations.ZoneQuantities := by
  refine ⟨?quantities, ?range⟩
  case quantities =>
    intro z p o s c row hcloses hrow
    refine ⟨s.closeThrough c o, exec_closePoint hcloses, ?_⟩
    obtain ⟨hx, hcheck⟩ := s.zoneAtClose_row_check c o row z
    obtain ⟨-, -, -, hvalid⟩ := hcloses
    rw [State.closeThrough_zone hvalid hrow]
    refine ⟨fun hcomplete => ?_, fun hincomplete => ?_⟩
    · have hq := zoneSteps_quantities_complete c (s.zoneAtClose c o row z).2 p hcomplete
      rw [hx, operateQuantity_eq_sum, restraintQuantity_eq_sum, PhaseRecord.quantities_eq] at hq
      simpa [biasCondition, hcheck] using hq
    · simpa using zoneSteps_quantities_incomplete c (s.zoneAtClose c o row z).2 p hincomplete
  case range =>
    intro row p ms hlen hcur
    have hS : restraintQuantity row p ms ≤ 40 * 8388607 := restraintQuantity_le hlen hcur
    exact ⟨(operateQuantity_le_restraintQuantity row p ms).trans hS, hS⟩

end Sys2Proof.Machine
end

section
/-! PROOFS. The Event List across resets and responses: what an offer, a reset, the completion of a response and a STATUS request
do to it, with the judging of a well-formed request and the place of the lost count in a STATUS response (R176 to R181, R185). -/

namespace Sys2Proof.Machine

/-! ## An offer -/

theorem EventList.offer_of_room {e : EventList} (r : EventRecord) (h : e.records.length < 64) :
    e.offer r = { records := e.records ++ [r], lost := e.lost } := by
  rw [EventList.offer, if_pos h]

theorem EventList.offer_of_full {e : EventList} (r : EventRecord) (h : 64 ≤ e.records.length) :
    e.offer r = { records := e.records, lost := if e.lost < 65535 then e.lost + 1 else e.lost } := by
  rw [EventList.offer, if_neg (Nat.not_lt.mpr h)]
  rfl

/-! ## The resets and the end of a response -/

section
variable {s : State}

/-- The RESET record comes after what the reset leaves of the list, with the timer's first round number (R157, R185). -/
theorem State.resetBy_events (s : State) (cause : ResetCause) (straps : Straps) :
    (s.resetBy cause straps).events = (s.events.afterReset cause).offer
      { kind := .reset, round := 0, subject := straps.toNat, detail := [byte cause.code] } := rfl

theorem exec_powerOn_reset {straps : Straps} {mv : Nat} (h : 2700 ≤ mv) :
    exec (.powerOn straps mv) s = .next (s.resetBy .powerOn straps) := by
  have hlevel : powerOnLevel ≤ mv := h
  simp [exec, execPowerOn, hlevel]

theorem exec_supplyRestore_reset {straps : Straps} {mv : Nat} (hp : s.powered = true) (hlow : s.supply.low = true)
    (hlevel : s.watchedLevel + 80 ≤ mv) :
    exec (.supplyRestore straps mv) s = .next (s.resetBy .supplyRestore straps) := by
  have hdue : s.supplyRestore straps mv = s.resetBy .supplyRestore straps := by simp [State.supplyRestore, hlow, hlevel]
  exact (live_powered (f := fun s => s.supplyRestore straps mv) hp).trans (by rw [hdue])

theorem exec_responseComplete {r : Response} {straps : Straps} (hp : s.powered = true) (hr : s.link.response = some r) :
    exec (.responseComplete straps) s =
      .next (({ s with link := { s.link with response := none } } : State).afterResponse r.onComplete straps) := by
  have hend : s.responseComplete straps =
      ({ s with link := { s.link with response := none } } : State).afterResponse r.onComplete straps := by
    simp [State.responseComplete, hr]
  exact (live_powered (f := fun s => s.responseComplete straps) hp).trans (by rw [hend])

end

/-! ## A well-formed request -/

theorem ofNat_u16_append_bytes2 (bs : List Byte) (c : Round) :
    BitVec.ofNat 16 (u16 (bs ++ bytes2 c.toNat) bs.length) = c := by
  apply BitVec.eq_of_toNat_eq
  have hc := c.isLt
  simp [u16, u8, bytes2, byte]
  omega

theorem crcGood_append_crcBytes (bs : List Byte) : crcGood (bs ++ crcBytes bs) = true := by
  have hlen : (bs ++ crcBytes bs).length - 2 = bs.length := by simp [crcBytes, bytes2]
  rw [crcGood, hlen, List.take_left, crcBytes, ofNat_u16_append_bytes2, beq_self_eq_true]

section
variable (k : Byte) (p : List Byte)

theorem requestBytes_length : (requestBytes k p).length = p.length + 4 := by
  simp [requestBytes, crcBytes, bytes2]

theorem crcGood_requestBytes : crcGood (requestBytes k p) = true := crcGood_append_crcBytes _

theorem requestBytes_head? : (requestBytes k p).head? = some k := rfl

theorem payloadOf_requestBytes : payloadOf (requestBytes k p) = p := by
  rw [payloadOf, requestBytes_length, Nat.add_sub_cancel]
  exact List.take_left ..

variable {k p}

theorem wholeRequest_requestBytes (h : p.length ≤ 250) : wholeRequest (requestBytes k p) = true := by
  have hn : (byte p.length).toNat = p.length := by
    rw [byte, BitVec.toNat_ofNat]
    omega
  have hlen := requestBytes_length k p
  simp only [requestBytes, List.cons_append] at hlen ⊢
  simp [wholeRequest, hn, h, hlen]

/-- A payload that fits has one byte at most. -/
theorem payloadFits_length (h : payloadFits k p = true) : p.length ≤ 1 := by
  match p with
  | [] | [_] => simp
  | _ :: _ :: _ => cases h

/-- A request of a known kind with a fitting payload, heard while no response is in progress, passes steps 1 to 4 of R177. -/
theorem State.judge_requestBytes {s : State} (hr : s.link.response = none) (hk : knownKind k = true)
    (hp : payloadFits k p = true) : s.judge (requestBytes k p) = s.take k p := by
  simp [State.judge, hr, crcGood_requestBytes, requestBytes_head?, payloadOf_requestBytes, hk, hp]

theorem State.request_requestBytes {s : State} {chars : List Byte} (h : s.hears chars (requestBytes k p))
    (hk : knownKind k = true) (hp : payloadFits k p = true) :
    s.request k chars = (s.setReceiver .idle).take k p := by
  obtain ⟨-, hresponse, hgathered⟩ := h
  have hwhole : wholeRequest (requestBytes k p) = true :=
    wholeRequest_requestBytes ((payloadFits_length hp).trans (by decide))
  have hjudge : (s.setReceiver .idle).judge (requestBytes k p) = (s.setReceiver .idle).take k p :=
    State.judge_requestBytes hresponse hk hp
  simp [State.request, State.requestChars, hgathered, requestBytes_head?, hwhole, crcGood_requestBytes, hjudge]

end

theorem exec_status {s : State} {chars : List Byte} (h : s.hears chars (requestBytes kindStatus [])) :
    exec (.status chars) s = .next ((s.setReceiver .idle).reply kindStatus .done (statusReport s)) := by
  have htaken : s.request kindStatus chars = (s.setReceiver .idle).take kindStatus [] :=
    State.request_requestBytes h (by decide) (by decide)
  obtain ⟨hp, -, -⟩ := h
  exact (live_powered (f := fun s => s.request kindStatus chars) hp).trans (by rw [htaken]; rfl)

/-! ## The lost count in a STATUS response -/

section
variable (s : State)

theorem statusLife_length : (statusLife s).length = 13 := rfl
theorem statusAcquisition_length (a : Acquisition) : (statusAcquisition a).length = 15 := rfl
theorem statusRing_length (r : Ring) : (statusRing r).length = 45 := rfl
theorem statusRows_length : (statusRows s).length = 18 := rfl
theorem statusZones_length (z : ZoneEvaluator) : (statusZones z).length = 4 := rfl
theorem statusTrip_length (t : TripUnit) : (statusTrip t).length = 17 := rfl
theorem linkCounters_length (k : LinkCounters) : k.bytes.length = 12 := rfl

/-- The lost count is the last two of a STATUS report's 127 bytes (section 11.3). -/
theorem statusReport_ends_lost : ∃ front, front.length = 125 ∧ statusReport s = front ++ bytes2 s.events.lost := by
  refine ⟨_, ?_, rfl⟩
  simp [statusLife_length, statusAcquisition_length, statusRing_length, statusRows_length, statusZones_length,
    statusTrip_length, linkCounters_length]

end

/-- A response's report follows its kind, length and status bytes. -/
theorem responseBytes_drop (kind : Byte) (status : ReplyStatus) (more : List Byte) {n : Nat} (h : n ≤ more.length) :
    ∃ crc, (responseBytes kind status more).drop (n + 3) = more.drop n ++ crc := by
  simp only [responseBytes, List.cons_append, List.nil_append, List.drop_succ_cons]
  exact ⟨_, List.drop_append_of_le_length h⟩

theorem statusResponse_lost (s : State) (kind : Byte) (status : ReplyStatus) :
    ((responseBytes kind status (statusReport s)).drop 128).take 2 = bytes2 s.events.lost := by
  obtain ⟨front, hlen, hreport⟩ := statusReport_ends_lost s
  obtain ⟨crc, hdrop⟩ := responseBytes_drop kind status (statusReport s) (n := 125) (by simp [hreport, hlen])
  rw [hdrop, hreport, List.drop_left' hlen]
  rfl

/-- Settles O8: a reset's record is offered to what its cause leaves of the list, the completion of an EVENTS response drops the
records it carried, and a STATUS report ends with the lost count. -/
theorem eventListAcrossResets : Obligations.EventListAcrossResets := by
  refine ⟨?powerOn, ?supplyRestore, ?restart, ?eventsRead, ?offer, ?status⟩
  case powerOn =>
    intro straps mv s hmv
    exact ⟨s.resetBy .powerOn straps, exec_powerOn_reset hmv, s.resetBy_events .powerOn straps⟩
  case supplyRestore =>
    intro straps mv s hp hlow hlevel
    exact ⟨s.resetBy .supplyRestore straps, exec_supplyRestore_reset hp hlow hlevel, s.resetBy_events .supplyRestore straps⟩
  case restart =>
    intro straps s r hp hr hrestart
    refine ⟨_, exec_responseComplete hp hr, ?_⟩
    rw [hrestart]
    exact State.resetBy_events _ .commandedRestart straps
  case eventsRead =>
    intro straps s r m hp hr hremove
    refine ⟨_, exec_responseComplete hp hr, ?_⟩
    rw [hremove]
    rfl
  case offer =>
    exact fun e r => ⟨EventList.offer_of_room r, EventList.offer_of_full r⟩
  case status =>
    intro chars s h
    exact ⟨_, _, exec_status h, rfl, rfl, statusResponse_lost s _ _⟩

end Sys2Proof.Machine
end

section
/-! PROOFS. The lanes: what the operations of an out-lane make of its queue and transmitter, each as one lane set (R45, R46). -/

namespace Sys2Proof.Machine

/-! ## Serving a lane -/

/-- A lane whose transmitter is free to send, the head frame dressed by the given function (R46). -/
def LaneState.served (dress : QueuedFrame → QueuedFrame) (x : LaneState) : LaneState :=
  if x.clearPending then { x with transmitter := .clearing, clearPending := false }
  else
    match x.queue with
    | f :: rest => { x with transmitter := .sending, queue := dress f :: rest }
    | [] => { x with transmitter := .idle }

/-- A lane whose transmitter takes up what has come, if it is IDLE (R46). -/
def LaneState.kicked (dress : QueuedFrame → QueuedFrame) (x : LaneState) : LaneState :=
  if x.transmitter = .idle then x.served dress else x

/-- A lane with a line clear requested (R36). -/
def LaneState.cleared (x : LaneState) : LaneState :=
  if x.transmitter = .idle then { x with transmitter := .clearing, clearPending := false } else { x with clearPending := true }

/-- A lane with a frame joined to its queue (R45). -/
def LaneState.joined (dress : QueuedFrame → QueuedFrame) (f : QueuedFrame) (x : LaneState) : LaneState :=
  ({ x with queue := x.queue ++ [f] } : LaneState).kicked dress

/-- A lane with a frame dropped at enqueue (R45). -/
def LaneState.dropped (x : LaneState) : LaneState :=
  { x with counters := { x.counters with queueFull := bump16 x.counters.queueFull } }

/-- A lane offered a frame (R45). -/
def LaneState.offered (dress : QueuedFrame → QueuedFrame) (f : QueuedFrame) (x : LaneState) : LaneState :=
  if x.queue.length < 8 then x.joined dress f else x.dropped

section
variable (s : State) (l m : Lane) (x y : LaneState) (f : QueuedFrame)

@[simp] theorem State.setLane_setLane : (s.setLane l x).setLane l y = s.setLane l y := by cases l <;> rfl

@[simp] theorem State.setLane_dress : (s.setLane l x).dress = s.dress := rfl

theorem State.serve_eq : s.serve l = s.setLane l ((s.lane l).served s.dress) := by
  unfold State.serve LaneState.served
  dsimp only
  split
  · rfl
  · cases hq : (s.lane l).queue <;> rfl

theorem State.kick_eq : s.kick l = s.setLane l ((s.lane l).kicked s.dress) := by
  unfold State.kick LaneState.kicked
  split
  · exact s.serve_eq l
  · exact (s.setLane_lane l).symm

theorem State.requestClear_eq : s.requestClear l = s.setLane l (s.lane l).cleared := by
  unfold State.requestClear
  rw [State.kick_eq, State.setLane_setLane, State.lane_setLane_same]
  congr 1

theorem State.append_eq : s.append l f = s.setLane l ((s.lane l).joined s.dress f) := by
  unfold State.append
  rw [State.kick_eq, State.setLane_setLane, State.lane_setLane_same]
  rfl

theorem State.enqueue_eq : s.enqueue l f = s.setLane l ((s.lane l).offered s.dress f) := by
  unfold State.enqueue State.hasRoom LaneState.offered
  simp only [decide_eq_true_eq]
  split
  · exact s.append_eq l f
  · rfl

/-- An own LEAVE offered to a queue: the lane takes it as any frame, and the drop of one is reported. -/
theorem State.enqueueLeave_eq : s.enqueueLeave l f =
    if (s.lane l).queue.length < 8 then s.setLane l ((s.lane l).offered s.dress f)
    else (s.setLane l ((s.lane l).offered s.dress f)).report false := by
  unfold State.enqueueLeave State.hasRoom LaneState.offered
  simp only [decide_eq_true_eq]
  split
  · exact s.append_eq l f
  · rfl

theorem State.enqueueLeave_lane : (s.enqueueLeave l f).lane m = (s.setLane l ((s.lane l).offered s.dress f)).lane m := by
  rw [State.enqueueLeave_eq]
  split
  · rfl
  · exact State.lane_eq _ _ (by simp) m

end

@[simp] theorem LaneState.count_queue (x : LaneState) (g : LaneCounters → LaneCounters) : (x.count g).queue = x.queue := rfl

/-- A lane that passes on a good frame of another station, unless the hop limit or a full queue stops it (R43). -/
def LaneState.passedOn (dress : QueuedFrame → QueuedFrame) (now : Nat) (bs : List Byte) (x : LaneState) : LaneState :=
  if 39 < frameHops bs + 1 then x.count (fun k => { k with hopLimit := bump16 k.hopLimit })
  else if x.queue.length < 8 then
    (x.count (fun k => { k with forwarded := bump16 k.forwarded })).joined dress
      { source := .copy now, bytes := setHops bs (frameHops bs + 1) }
  else x.dropped

theorem State.forwardFrame_eq (s : State) (l : Lane) (bs : List Byte) :
    s.forwardFrame l bs = s.setLane l ((s.lane l).passedOn s.dress s.now bs) := by
  unfold State.forwardFrame State.hasRoom LaneState.passedOn
  simp only [decide_eq_true_eq]
  split
  · rfl
  · split
    · rw [State.append_eq, State.lane_mapLane, if_pos rfl, State.mapLane, State.setLane_setLane, State.setLane_dress]
    · rfl

/-- A good CONTRIB changes the ring by its removal or its forwarding alone (R42, R43). -/
theorem State.goodContrib_ring (s : State) (l : Lane) (bs : List Byte) : (s.goodContrib l bs).ring =
    if frameOrigin bs = s.ownNumber then (s.stripOwn l).ring else (s.forwardFrame l bs).ring := by
  unfold State.goodContrib
  repeat' split
  all_goals simp

/-- A good LEAVE changes the ring by its removal or its forwarding alone (R42, R43). -/
theorem State.goodLeave_ring (s : State) (l : Lane) (bs : List Byte) : (s.goodLeave l bs).ring =
    if frameOrigin bs = s.ownNumber then (s.stripOwn l).ring else (s.forwardFrame l bs).ring := by
  unfold State.goodLeave
  repeat' split
  all_goals simp

theorem State.stopForHold_lane (s : State) (l : Lane) : s.stopForHold.lane l = (s.lane l).intoHold := by cases l <;> rfl

/-! ## What stays of a lane -/

section
variable (dress : QueuedFrame → QueuedFrame) (f : QueuedFrame) (x : LaneState)

@[simp] theorem LaneState.served_frame :
    (x.served dress).receiver = x.receiver ∧ (x.served dress).up = x.up ∧ (x.served dress).silentRun = x.silentRun ∧
    (x.served dress).liveRun = x.liveRun ∧ (x.served dress).goodSeen = x.goodSeen ∧
    (x.served dress).counters = x.counters := by
  unfold LaneState.served
  split
  · simp
  · split <;> simp

@[simp] theorem LaneState.kicked_frame :
    (x.kicked dress).receiver = x.receiver ∧ (x.kicked dress).up = x.up ∧ (x.kicked dress).silentRun = x.silentRun ∧
    (x.kicked dress).liveRun = x.liveRun ∧ (x.kicked dress).goodSeen = x.goodSeen ∧
    (x.kicked dress).counters = x.counters := by
  unfold LaneState.kicked; split <;> simp

@[simp] theorem LaneState.cleared_frame :
    x.cleared.receiver = x.receiver ∧ x.cleared.up = x.up ∧ x.cleared.silentRun = x.silentRun ∧
    x.cleared.liveRun = x.liveRun ∧ x.cleared.goodSeen = x.goodSeen ∧ x.cleared.counters = x.counters ∧
    x.cleared.queue = x.queue := by
  unfold LaneState.cleared; split <;> simp

@[simp] theorem LaneState.joined_frame :
    (x.joined dress f).receiver = x.receiver ∧ (x.joined dress f).up = x.up ∧
    (x.joined dress f).silentRun = x.silentRun ∧ (x.joined dress f).liveRun = x.liveRun ∧
    (x.joined dress f).goodSeen = x.goodSeen ∧ (x.joined dress f).counters = x.counters := by
  simp [LaneState.joined]

@[simp] theorem LaneState.dropped_frame :
    x.dropped.receiver = x.receiver ∧ x.dropped.up = x.up ∧ x.dropped.queue = x.queue ∧
    x.dropped.transmitter = x.transmitter ∧ x.dropped.clearPending = x.clearPending := by
  simp [LaneState.dropped]

@[simp] theorem LaneState.offered_frame :
    (x.offered dress f).receiver = x.receiver ∧ (x.offered dress f).up = x.up := by
  unfold LaneState.offered; split <;> simp

@[simp] theorem LaneState.passedOn_frame (now : Nat) (bs : List Byte) :
    (x.passedOn dress now bs).receiver = x.receiver ∧ (x.passedOn dress now bs).up = x.up ∧
    (x.passedOn dress now bs).goodSeen = x.goodSeen ∧
    (x.passedOn dress now bs).counters.goodFrames = x.counters.goodFrames := by
  unfold LaneState.passedOn
  repeat' split
  all_goals simp [LaneState.count, LaneState.dropped]

/-- A lane with a line clear requested sends it at once or holds it. -/
theorem LaneState.cleared_asks : x.cleared.clearPending = true ∨ x.cleared.transmitter = .clearing := by
  unfold LaneState.cleared; split <;> simp

/-- The queue of a lane taken up by its transmitter: the same frames, the head dressed perhaps. -/
theorem LaneState.kicked_queue :
    (x.kicked dress).queue = x.queue ∨ ∃ g rest, x.queue = g :: rest ∧ (x.kicked dress).queue = dress g :: rest := by
  unfold LaneState.kicked LaneState.served
  split
  · split
    · exact .inl rfl
    · split
      · rename_i g rest hq; exact .inr ⟨g, rest, hq, rfl⟩
      · exact .inl rfl
  · exact .inl rfl

end

end Sys2Proof.Machine
end

section
/-! PROOFS. The out-lane queues: eight whole frames at most, whatever the station does (R38, R45, section 11.2). -/

namespace Sys2Proof.Machine

/-! ## A frame with its age set (R47) -/

section
variable {bs : List Byte} (age : Nat)

/-- The age bytes set: the frame without its CRC, and the CRC of that. -/
theorem setAge_eq : setAge bs age =
    ((bs.set 4 (byte (age / 256))).set 5 (byte age)).take (bs.length - 2) ++
      crcBytes (((bs.set 4 (byte (age / 256))).set 5 (byte age)).take (bs.length - 2)) := by
  simp [setAge]

theorem crcBytes_length (xs : List Byte) : (crcBytes xs).length = 2 := rfl

theorem setAge_length (h : 2 ≤ bs.length) : (setAge bs age).length = bs.length := by
  rw [setAge_eq, List.length_append, crcBytes_length]
  simp
  omega

/-- Before its CRC a frame keeps every byte but the two of its age. -/
theorem setAge_getElem? {i : Nat} (hi : i < bs.length - 2) (h4 : i ≠ 4) (h5 : i ≠ 5) : (setAge bs age)[i]? = bs[i]? := by
  rw [setAge_eq, List.getElem?_append_left (by simp; omega), List.getElem?_take_of_lt hi,
    List.getElem?_set_ne (Ne.symm h5), List.getElem?_set_ne (Ne.symm h4)]

end

theorem QueuedFrame.whole.length {f : QueuedFrame} (h : f.whole) : f.bytes.length = 24 ∨ f.bytes.length = 12 := by
  unfold QueuedFrame.whole frameLength at h
  repeat' split at h
  all_goals simp_all

/-- The head frame brought up to date is its bytes with some age, and of the same source (R47). -/
theorem State.dress_eq (s : State) (f : QueuedFrame) :
    ∃ age, s.dress f = { source := f.source, bytes := setAge f.bytes age } := by
  cases f with
  | mk source bytes => cases source <;> exact ⟨_, rfl⟩

theorem QueuedFrame.whole.of_bytes {f g : QueuedFrame} (h : f.whole) (hlen : g.bytes.length = f.bytes.length)
    (hlead : g.bytes[0]? = f.bytes[0]?) : g.whole := by
  unfold QueuedFrame.whole at *
  rw [List.getD_eq_getElem?_getD, hlead, hlen, ← List.getD_eq_getElem?_getD]
  exact h

theorem State.dress_whole (s : State) {f : QueuedFrame} (h : f.whole) : (s.dress f).whole := by
  obtain ⟨age, hd⟩ := s.dress_eq f
  have hlen := h.length
  rw [hd]
  exact h.of_bytes (setAge_length age (by omega)) (setAge_getElem? age (by omega) (by decide) (by decide))

/-! ## The frames the station queues -/

theorem contribFrame_whole (n : Nat) (k checksum : Round) (x : Content) :
    (⟨.own, contribBytes n k x checksum⟩ : QueuedFrame).whole := rfl

theorem leaveFrame_whole (s : State) (reason : Byte) : (s.leaveFrame reason).whole := rfl

/-- A copy of a whole frame with another hops field is whole (R43). -/
theorem copy_whole {bs : List Byte} {n t h : Nat} {lead : Byte} (hlead : bs.head? = some lead) (hn : frameLength lead = some n)
    (hlen : bs.length = n) : (⟨.copy t, setHops bs h⟩ : QueuedFrame).whole := by
  cases bs with
  | nil => cases hlead
  | cons b rest =>
    simp only [List.head?_cons, Option.some.injEq] at hlead
    subst hlead
    simp [QueuedFrame.whole, setHops, hn, ← hlen]

/-! ## One lane -/

/-- The queue of a lane holds eight whole frames at most. -/
def LaneState.fits (x : LaneState) : Prop := x.queue.length ≤ 8 ∧ ∀ f ∈ x.queue, f.whole

section
variable {x y : LaneState} {dress : QueuedFrame → QueuedFrame} {f : QueuedFrame}

theorem LaneState.fits.of_queue (h : x.fits) (hq : y.queue = x.queue) : y.fits := by
  unfold LaneState.fits at *; rwa [hq]

/-- A queue cut back still fits. -/
theorem LaneState.fits.of_sublist (h : x.fits) (hq : y.queue.Sublist x.queue) : y.fits :=
  ⟨hq.length_le.trans h.1, fun f hf => h.2 f (hq.subset hf)⟩

theorem LaneState.fits.kicked (h : x.fits) (hd : ∀ f, f.whole → (dress f).whole) : (x.kicked dress).fits := by
  rcases x.kicked_queue dress with hq | ⟨g, rest, hx, hq⟩
  · exact h.of_queue hq
  · unfold LaneState.fits at *
    rw [hx] at h
    rw [hq]
    obtain ⟨hlen, hwhole⟩ := h
    refine ⟨hlen, fun f hf => ?_⟩
    rcases List.mem_cons.mp hf with rfl | hf
    · exact hd g (hwhole g List.mem_cons_self)
    · exact hwhole f (List.mem_cons_of_mem g hf)

theorem LaneState.fits.offered (h : x.fits) (hd : ∀ f, f.whole → (dress f).whole) (hf : f.whole) :
    (x.offered dress f).fits := by
  unfold LaneState.offered
  split
  · rename_i hroom
    refine LaneState.fits.kicked ⟨?_, fun g hg => ?_⟩ hd
    · simp only [List.length_append, List.length_singleton]; omega
    · rcases List.mem_append.mp hg with hg | hg
      · exact h.2 g hg
      · rwa [List.mem_singleton.mp hg]
  · exact h.of_queue x.dropped_frame.2.2.1

theorem LaneState.fits.passedOn (h : x.fits) (hd : ∀ f, f.whole → (dress f).whole) {now : Nat} {bs : List Byte} {n : Nat}
    {lead : Byte} (hlead : bs.head? = some lead) (hn : frameLength lead = some n) (hlen : bs.length = n) :
    (x.passedOn dress now bs).fits := by
  have hcount (g : LaneCounters → LaneCounters) : (x.count g).fits := h
  have hoffered := (hcount (fun k => { k with forwarded := bump16 k.forwarded })).offered hd
    (copy_whole (t := now) (h := frameHops bs + 1) hlead hn hlen)
  unfold LaneState.passedOn
  split
  · exact hcount _
  · split
    · rename_i hroom
      rwa [LaneState.offered, LaneState.count_queue, if_pos hroom] at hoffered
    · exact h.of_queue (by simp)

theorem LaneState.fits.served (h : x.fits) (hd : ∀ f, f.whole → (dress f).whole) : (x.served dress).fits := by
  have hk : x.served dress = ({ x with transmitter := .idle } : LaneState).kicked dress := by
    simp [LaneState.kicked, LaneState.served]
  rw [hk]
  exact LaneState.fits.kicked (x := { x with transmitter := .idle }) h hd

theorem LaneState.fits.dropOwn (h : x.fits) : x.dropOwn.fits := by
  refine h.of_sublist ?_
  unfold LaneState.dropOwn
  split
  · rename_i hq; rw [hq]; exact List.filter_sublist.cons_cons _
  · exact List.filter_sublist

theorem LaneState.fits.intoHold (h : x.fits) : x.intoHold.fits := by
  refine h.of_sublist ?_
  unfold LaneState.intoHold
  dsimp only
  split
  · rename_i hq; rw [hq]; exact List.filter_sublist.cons_cons _
  · exact List.filter_sublist

theorem LaneState.health_queue (x : LaneState) (c : Configuration) : (x.health c).queue = x.queue := by
  unfold LaneState.health
  dsimp only
  repeat' split
  all_goals rfl

end

end Sys2Proof.Machine
end

section
/-! PROOFS. Every step keeps the out-lane queues within eight whole frames (R45): operation by operation. -/

namespace Sys2Proof.Machine

/-- Both lanes' queues hold eight whole frames at most. -/
def State.lanesFit (s : State) : Prop := ∀ l, (s.lane l).fits

theorem State.lanesFit_iff (s : State) : s.lanesFit ↔ s.queuesBounded ∧ s.queuesWhole := by
  refine ⟨fun h => ⟨⟨(h .one).1, (h .two).1⟩, (h .one).2, (h .two).2⟩, ?_⟩
  rintro ⟨⟨h1, h2⟩, w1, w2⟩ l
  cases l with
  | one => exact ⟨h1, w1⟩
  | two => exact ⟨h2, w2⟩

section
variable {s t : State} {x : LaneState} {f : QueuedFrame}

theorem State.lanesFit.of_ring (h : s.lanesFit) (ht : t.ring = s.ring) : t.lanesFit := fun l => by
  rw [State.lane_eq t s ht l]; exact h l

theorem State.lanesFit.setLane (h : s.lanesFit) (l : Lane) (hx : x.fits) : (s.setLane l x).lanesFit := fun m => by
  rw [State.lane_setLane]
  split
  · exact hx
  · exact h m

theorem State.lanesFit.mapLane (h : s.lanesFit) (l : Lane) {g : LaneState → LaneState} (hg : (g (s.lane l)).fits) :
    (s.mapLane l g).lanesFit := h.setLane l hg

/-- A change of a lane that leaves its queue alone. -/
theorem State.lanesFit.mapLane_queue (h : s.lanesFit) (l : Lane) {g : LaneState → LaneState}
    (hg : ∀ x, (g x).queue = x.queue) : (s.mapLane l g).lanesFit := h.mapLane l ((h l).of_queue (hg _))

theorem State.lanesFit.requestClear (h : s.lanesFit) (l : Lane) : (s.requestClear l).lanesFit := by
  rw [State.requestClear_eq]; exact h.setLane l ((h l).of_queue (by simp))

theorem State.lanesFit.enqueue (h : s.lanesFit) (l : Lane) (hf : f.whole) : (s.enqueue l f).lanesFit := by
  rw [State.enqueue_eq]; exact h.setLane l ((h l).offered (fun _ => s.dress_whole) hf)

theorem State.lanesFit.enqueueLeave (h : s.lanesFit) (l : Lane) (hf : f.whole) : (s.enqueueLeave l f).lanesFit := fun m => by
  rw [State.enqueueLeave_lane, ← State.enqueue_eq]; exact h.enqueue l hf m

theorem State.lanesFit.serve (h : s.lanesFit) (l : Lane) : (s.serve l).lanesFit := by
  rw [State.serve_eq]; exact h.setLane l ((h l).served (fun _ => s.dress_whole))

theorem State.lanesFit.clearPartner (h : s.lanesFit) (l : Lane) (old : LaneState) : (s.clearPartner l old).lanesFit := by
  unfold State.clearPartner
  split
  · exact h.requestClear _
  · exact h

theorem State.lanesFit.checkHealth (h : s.lanesFit) (c : Configuration) : (s.checkHealth c).lanesFit :=
  (((h.mapLane_queue .one (·.health_queue c)).mapLane_queue .two (·.health_queue c)).clearPartner .one _).clearPartner .two _

/-! ## Marks and close points -/

theorem State.lanesFit.localMarkBlocks (h : s.lanesFit) (c : Configuration) (x : BayLines) :
    (s.localMarkBlocks c x).lanesFit := by
  refine State.lanesFit.checkHealth ?_ c
  exact h.of_ring (by simp)

theorem State.lanesFit.localMark (h : s.lanesFit) (x : BayLines) : (s.localMark x).lanesFit := by
  unfold State.localMark
  split
  · rename_i c _ _
    have hp : (s.passTo c.period).lanesFit := h.of_ring rfl
    dsimp only
    split
    · exact (hp.localMarkBlocks c x).of_ring (by simp [State.settle])
    · split
      · refine State.lanesFit.of_ring (State.lanesFit.checkHealth (s := ?_) ?_ c) (by simp [State.startNumbering]; rfl)
        exact hp.of_ring (by simp)
      · exact (hp.localMarkBlocks c x).of_ring (by simp)
  · exact h

theorem State.lanesFit.exclude (h : s.lanesFit) (r : StationReason) : (s.exclude r).lanesFit := by
  have hd : ({ s with ring := { one := s.ring.one.dropOwn, two := s.ring.two.dropOwn } } : State).lanesFit := by
    intro l
    cases l with
    | one => exact (h .one).dropOwn
    | two => exact (h .two).dropOwn
  exact hd.of_ring (by simp [State.exclude])

theorem State.lanesFit.controllerClose (h : s.lanesFit) (c : Configuration) : (s.controllerClose c).lanesFit := by
  obtain ⟨x, -, -, ht | ⟨-, r, ht⟩ | ⟨-, ht⟩⟩ := s.controllerClose_cases c
  · rw [ht]; exact h.of_ring rfl
  · rw [ht]; exact State.lanesFit.exclude (s := { s with life := x }) (h.of_ring rfl) r
  · rw [ht]; exact h.of_ring (by simp)

theorem State.lanesFit.closeBlock (h : s.lanesFit) (c : Configuration) (b : CloseBlock) :
    (Machine.closeBlock c s b).lanesFit := by
  cases b with
  | health => exact (h.checkHealth c).of_ring (by simp [Machine.closeBlock, State.healthClose])
  | controller => exact h.controllerClose c
  | membership | replica | zones | trip | timer => exact h.of_ring (by simp [Machine.closeBlock])

/-! ## Scans and arrivals -/

theorem State.lanesFit.ownBuild (h : s.lanesFit) (c : Configuration) (k : Round) (i : Tri Int) (q : Quality) (p : Positions) :
    (s.ownBuild c k i q p).lanesFit := by
  unfold State.ownBuild
  dsimp only
  split
  · refine State.lanesFit.enqueue (State.lanesFit.enqueue ?_ .one (contribFrame_whole ..)) .two (contribFrame_whole ..)
    exact h.of_ring (by simp)
  · exact h.of_ring rfl

theorem State.lanesFit.handOn (h : s.lanesFit) (c : Configuration) (tag : ScanTag) (i : Tri Int) (q : Quality) :
    (s.handOn c tag i q).lanesFit := by
  unfold State.handOn
  repeat' split
  · exact (h.ownBuild _ _ _ _ _).of_ring rfl
  · exact h.of_ring rfl
  · exact h
  · exact h.of_ring rfl
  all_goals exact h

theorem State.lanesFit.scanComplete (h : s.lanesFit) (n : ScanCounts) : (s.scanComplete n).lanesFit := by
  have hu : (s.scanUnit n).lanesFit := h.of_ring (by simp)
  unfold State.scanComplete
  split
  · exact h
  · dsimp only
    split
    · exact hu.handOn _ _ _ _
    · exact hu

theorem State.lanesFit.forwardFrame (h : s.lanesFit) (l : Lane) {bs : List Byte} {n : Nat} {lead : Byte}
    (hlead : bs.head? = some lead) (hn : frameLength lead = some n) (hlen : bs.length = n) :
    (s.forwardFrame l bs).lanesFit := by
  rw [State.forwardFrame_eq]; exact h.setLane l ((h l).passedOn (fun _ => s.dress_whole) hlead hn hlen)

theorem State.lanesFit.frameEnds (h : s.lanesFit) (l : Lane) {bs : List Byte} {n : Nat} {lead : Byte}
    (hlead : bs.head? = some lead) (hn : frameLength lead = some n) (hlen : bs.length = n) : (s.frameEnds l bs).lanesFit := by
  have ha : (s.mapLane l LaneState.accept).lanesFit := h.mapLane_queue l fun _ => rfl
  have hstrip : ((s.mapLane l LaneState.accept).stripOwn l).lanesFit := ha.mapLane_queue l fun _ => rfl
  have hforward := ha.forwardFrame l hlead hn hlen
  unfold State.frameEnds
  repeat' split
  · refine State.lanesFit.of_ring (s := if frameOrigin bs = _ then _ else _) ?_ ((State.goodContrib_ring ..).trans (apply_ite ..).symm)
    split
    exacts [hstrip, hforward]
  · refine State.lanesFit.of_ring (s := if frameOrigin bs = _ then _ else _) ?_ ((State.goodLeave_ring ..).trans (apply_ite ..).symm)
    split
    exacts [hstrip, hforward]
  · exact h.mapLane_queue l fun _ => rfl

theorem State.lanesFit.frameChars (h : s.lanesFit) (l : Lane) {n : Nat} {lead : Byte} (hn : frameLength lead = some n)
    (chars : List Byte) : (s.frameChars l lead n chars).lanesFit := by
  unfold State.frameChars
  split
  · split
    · rename_i hhead
      simp only [Bool.and_eq_true, beq_iff_eq] at hhead
      split
      · rename_i hlen; exact h.frameEnds l hhead.2 hn hlen
      · split
        · exact h.mapLane_queue l fun _ => rfl
        · exact h
    · exact h
  · exact h

/-! ## Transmission and the life cycle -/

theorem State.lanesFit.transmissionComplete (h : s.lanesFit) (l : Lane) : (s.transmissionComplete l).lanesFit := by
  unfold State.transmissionComplete
  split
  · rename_i f rest _ hq
    have hsent : (s.mapLane l fun x => x.headSent (s.life.state == .hold) rest).lanesFit :=
      h.mapLane l ((h l).of_sublist (by simp [hq]))
    dsimp only
    split
    · exact hsent.of_ring (by simp)
    · exact hsent
  · exact h

theorem State.lanesFit.configReadEnd (h : s.lanesFit) (b : List Byte) (x : BayLines) : (s.configReadEnd b x).lanesFit := by
  have hload (c : Configuration) (k : Round) : (s.loadImage c k).lanesFit := by
    intro l
    cases l with
    | one => exact h .one
    | two => exact h .two
  unfold State.configReadEnd
  repeat' split
  · have hmove : ((s.loadImage (configOf b) (sharedChecksum b)).transition .stabilise .imageGood []).lanesFit :=
      (hload (configOf b) (sharedChecksum b)).of_ring (by simp)
    exact ((hmove.requestClear .one).requestClear .two).of_ring (by simp [State.enterStabilise])
  · exact h.of_ring (by simp)
  · exact h

theorem State.lanesFit.enterHold (h : s.lanesFit) : s.enterHold.lanesFit := by
  have hstop : s.abandonStart.stopForHold.lanesFit := by
    have hring : s.abandonStart.ring = s.ring := by simp
    intro l
    rw [State.stopForHold_lane, State.lane_eq _ s hring]
    exact (h l).intoHold
  have hheld : (s.abandonStart.stopForHold.enter .hold [[holdDraft s]]).lanesFit := hstop.of_ring (by simp)
  unfold State.enterHold
  dsimp only
  split
  · exact (hheld.enqueueLeave .one (leaveFrame_whole ..)).enqueueLeave .two (leaveFrame_whole ..)
  · exact hheld

theorem State.lanesFit.acceptLeave (h : s.lanesFit) : s.acceptLeave.lanesFit :=
  State.lanesFit.enqueueLeave (State.lanesFit.enqueueLeave (h.of_ring (by simp)) .one (leaveFrame_whole ..)) .two
    (leaveFrame_whole ..)

end

/-- Every operation keeps the queues within eight whole frames. -/
theorem kept_lanesFit : Kept State.lanesFit where
  power _ _ h := h
  reset s cause straps _ := by
    intro l
    cases l with
    | one => exact ⟨Nat.zero_le 8, by simp [State.resetBy, State.lane, Ring.lane, Ring.initial, LaneState.initial]⟩
    | two => exact ⟨Nat.zero_le 8, by simp [State.resetBy, State.lane, Ring.lane, Ring.initial, LaneState.initial]⟩
  readEnd _ b x h := h.configReadEnd b x
  hold _ h := h.enterHold
  bareMark _ _ h := h.of_ring (by simp)
  localMark _ x h := h.localMark x
  roundMark _ _ h := h.of_ring (by simp)
  rowClosed _ _ _ _ h := h.of_ring (by simp)
  block _ c b _ h := h.closeBlock c b
  scan _ n h := h.scanComplete n
  contrib _ l bs h := h.frameChars l rfl bs
  leaveFrame _ l bs h := h.frameChars l rfl bs
  unknownLead _ l _ h := by unfold State.unknownLead; split; exacts [h.mapLane_queue l fun _ => rfl, h]
  malformed _ l h := by unfold State.malformedInHunt; split; exacts [h.mapLane_queue l fun _ => rfl, h]
  backToHunt _ l h := by unfold State.backToHunt; split; exacts [h.mapLane_queue l fun _ => rfl, h]
  framing _ l _ _ h := by unfold State.framingError; split; exacts [h.mapLane_queue l fun _ => rfl, h]
  truncation _ l _ h := by unfold State.truncation; split; exacts [h.mapLane_queue l fun _ => rfl, h]
  clearSeen _ l _ h := by unfold State.lineClearSeen; split; exacts [h.mapLane_queue l fun _ => rfl, h]
  sent _ l h := h.transmissionComplete l
  clearEnd _ l h := by unfold State.lineClearEnd; split; exacts [h.mapLane_queue l fun _ => rfl, h]
  gapEnd _ l h := by unfold State.gapEnd; split; exacts [h.serve l, h]
  link _ _ h := h
  ack _ h := h
  release _ _ h := h
  leave _ _ h := h.acceptLeave
  read _ _ h := h

/-- Settles O54: the queues of both lanes fit in the state after every operation a step is made of. -/
theorem queuesStayBounded : Obligations.QueuesStayBounded := by
  intro s t hbounded hwhole hstep
  have hfit : s.lanesFit := s.lanesFit_iff.mpr ⟨hbounded, hwhole⟩
  exact t.lanesFit_iff.mp (kept_lanesFit.step (fun _ _ h => h) (fun _ h => h) s t hfit hstep)

end Sys2Proof.Machine
end

section
/-! PROOFS. The Event List: whatever happens but a reset and the reading of records only offers records to it, and offers keep it within
64 records and a lost count of 65535 (R184, R185). -/

namespace Sys2Proof.Machine

/-! ## Growth by offers -/

/-- One list comes from another by offers alone. -/
def EventList.Grows (e e' : EventList) : Prop := ∃ rs : List EventRecord, e' = rs.foldl EventList.offer e

section
variable {e e' e'' : EventList}

theorem EventList.Grows.refl (e : EventList) : e.Grows e := ⟨[], rfl⟩

theorem EventList.Grows.of_eq (h : e' = e) : e.Grows e' := ⟨[], h⟩

theorem EventList.Grows.trans (h : e.Grows e') (h' : e'.Grows e'') : e.Grows e'' := by
  obtain ⟨rs, rfl⟩ := h
  obtain ⟨rs', rfl⟩ := h'
  exact ⟨rs ++ rs', List.foldl_append.symm⟩

theorem EventList.Grows.offer (e : EventList) (r : EventRecord) : e.Grows (e.offer r) := ⟨[r], rfl⟩

/-- What a list holds stays in it as it grows. -/
theorem EventList.Grows.mem (h : e.Grows e') {r : EventRecord} (hr : r ∈ e.records) : r ∈ e'.records := by
  obtain ⟨rs, rfl⟩ := h
  induction rs generalizing e with
  | nil => exact hr
  | cons x rs ih => exact ih (EventList.mem_offer x hr)

/-- The bounds of R184. -/
def EventList.bounded (e : EventList) : Prop := e.records.length ≤ 64 ∧ e.lost ≤ 65535

theorem EventList.bounded.offer (h : e.bounded) (r : EventRecord) : (e.offer r).bounded := by
  obtain ⟨hlen, hlost⟩ := h
  unfold EventList.offer
  split
  · exact ⟨by simp only [List.length_append, List.length_singleton]; omega, hlost⟩
  · refine ⟨hlen, ?_⟩
    simp only [bump16, bump]
    split <;> omega

theorem EventList.bounded.grows (h : e.bounded) (hg : e.Grows e') : e'.bounded := by
  obtain ⟨rs, rfl⟩ := hg
  induction rs generalizing e with
  | nil => exact h
  | cons r rs ih => exact ih (h.offer r)

end

/-! ## The shared operations -/

section
variable (s : State)

theorem State.offerAll_grows (ds : List Draft) : s.events.Grows (s.offerAll ds).events := by
  induction ds generalizing s with
  | nil => exact .refl _
  | cons d ds ih => exact (EventList.Grows.offer _ _).trans (ih (s.offer d))

theorem State.offerGroups_grows (gs : List (List Draft)) : s.events.Grows (s.offerGroups gs).events := by
  obtain ⟨ds, -, he⟩ := s.offerGroups_offerAll gs
  rw [he]
  exact s.offerAll_grows ds

theorem State.enter_grows (new : StationState) (gs : List (List Draft)) : s.events.Grows (s.enter new gs).events :=
  (s.moveTo new).offerGroups_grows _

theorem State.transition_grows (new : StationState) (r : StationReason) (more : List Byte) :
    s.events.Grows (s.transition new r more).events := s.enter_grows new _

theorem State.report_grows (sent : Bool) : s.events.Grows (s.report sent).events := by
  unfold State.report
  split
  · dsimp only
    split
    · exact State.transition_grows _ _ _ _
    · exact .refl _
  · exact .refl _

theorem State.enqueueLeave_grows (l : Lane) (f : QueuedFrame) : s.events.Grows (s.enqueueLeave l f).events := by
  unfold State.enqueueLeave
  split
  · exact .of_eq (by simp)
  · exact (EventList.Grows.of_eq (by simp)).trans (State.report_grows (s.dropFrame l) false)

theorem State.changeEntry_grows (e : Entry) (f : Entry → Entry) : s.events.Grows (s.changeEntry e f).events :=
  (s.mapEntry e.station f).offerAll_grows _

/-! ## Marks, closes and scans -/

theorem State.localMark_grows (x : BayLines) : s.events.Grows (s.localMark x).events := by
  unfold State.localMark
  split
  · dsimp only
    split
    · exact (EventList.Grows.of_eq (by simp [State.passTo])).trans (State.enter_grows _ _ _)
    · split
      · exact (EventList.Grows.of_eq (by simp [State.passTo])).trans (State.enter_grows _ _ _)
      · exact (EventList.Grows.of_eq (by simp [State.passTo])).trans (State.offerAll_grows _ _)
  · exact .refl _

theorem State.roundMark_grows (x : BayLines) : s.events.Grows (s.roundMark x).events := by
  unfold State.roundMark
  split
  · split
    · exact .refl _
    · dsimp only
      split
      · exact (EventList.Grows.of_eq (by simp [State.passTo])).trans (State.transition_grows _ _ _ _)
      · exact .of_eq (by simp [State.passTo])
  · exact .refl _

theorem State.membershipClose_grows (c : Configuration) : s.events.Grows (s.membershipClose c).events := by
  unfold State.membershipClose
  split
  · exact .refl _
  · exact State.offerAll_grows _ _

theorem State.replicaClose_grows (c : Configuration) : s.events.Grows (s.replicaClose c).events := by
  unfold State.replicaClose
  split
  · exact .refl _
  · exact State.offerAll_grows _ _

theorem State.zonesClose_grows (c : Configuration) : s.events.Grows (s.zonesClose c).events := by
  unfold State.zonesClose
  split
  · exact .refl _
  · exact State.offerAll_grows _ _

theorem State.decideOutput_grows (c : Configuration) : s.events.Grows (s.decideOutput c).events := by
  unfold State.decideOutput State.holdOutput State.energise
  dsimp only
  repeat' split
  all_goals first | exact .refl _ | exact .offer _ _

theorem State.stepBf_grows (c : Configuration) : s.events.Grows (s.stepBf c).events := by
  unfold State.stepBf State.bfIdle State.bfRunning State.bfExpiredStep
  repeat' split
  all_goals first | exact .refl _ | exact .offer _ _

theorem State.tripClose_grows (c : Configuration) : s.events.Grows (s.tripClose c).events :=
  (EventList.Grows.of_eq (by simp)).trans
    ((((s.takePeak c).formCauses c).decideOutput_grows c).trans (State.stepBf_grows _ c))

theorem State.controllerClose_grows (c : Configuration) : s.events.Grows (s.controllerClose c).events := by
  obtain ⟨x, -, -, ht | ⟨-, r, ht⟩ | ⟨-, ht⟩⟩ := s.controllerClose_cases c <;> rw [ht]
  · exact .refl _
  · exact State.transition_grows _ _ _ _
  · exact State.transition_grows _ _ _ _

theorem closeBlock_grows (c : Configuration) (b : CloseBlock) : s.events.Grows (closeBlock c s b).events := by
  cases b with
  | health => exact (EventList.Grows.of_eq (by simp)).trans ((s.checkHealth c).offerAll_grows (s.healthDrafts c))
  | membership => exact s.membershipClose_grows c
  | replica => exact s.replicaClose_grows c
  | zones => exact s.zonesClose_grows c
  | trip => exact s.tripClose_grows c
  | timer => exact .of_eq (by simp [closeBlock])
  | controller => exact s.controllerClose_grows c

theorem closeBlocks_grows (c : Configuration) (bs : List CloseBlock) : s.events.Grows (bs.foldl (closeBlock c) s).events := by
  induction bs generalizing s with
  | nil => exact .refl _
  | cons b bs ih => exact (closeBlock_grows s c b).trans (ih _)

theorem State.scanComplete_grows (n : ScanCounts) : s.events.Grows (s.scanComplete n).events := by
  have hu : s.events.Grows (s.scanUnit n).events := State.offerAll_grows _ _
  unfold State.scanComplete
  split
  · exact .refl _
  · dsimp only
    split
    · exact hu.trans (.of_eq (by simp))
    · exact hu

/-! ## Arrivals -/

theorem State.recapture_grows (c : Configuration) (n : Nat) (r : Round) (age : Nat) :
    s.events.Grows (s.recapture c n r age).events := State.offerGroups_grows _ _

theorem State.identityClash_grows (lead : Byte) (r : Round) (l : Lane) :
    s.events.Grows (s.identityClash lead r l).events := by
  unfold State.identityClash
  dsimp only
  repeat' split
  all_goals first | exact .refl _ | exact .offer _ _

theorem State.outOfWindowArrival_grows (c : Configuration) (f : Contrib) :
    s.events.Grows (s.outOfWindowArrival c f).events := by
  unfold State.outOfWindowArrival
  dsimp only
  split
  · exact State.recapture_grows _ _ _ _ _
  · exact .refl _

theorem State.contribArrival_grows (c : Configuration) (l : Lane) (f : Contrib) :
    s.events.Grows (s.contribArrival c l f).events := by
  unfold State.contribArrival
  split
  · exact .refl _
  · split
    · unfold State.refuseArrival
      dsimp only
      split
      · exact State.changeEntry_grows _ _ _
      · exact State.changeEntry_grows _ _ _
    · repeat' split
      · exact .refl _
      · unfold State.slotArrival
        repeat' split
        all_goals first | exact .refl _ | exact .offer _ _
      · exact .refl _
      · exact State.outOfWindowArrival_grows _ _ _
      · exact .refl _

theorem State.handContrib_grows (l : Lane) (f : Contrib) : s.events.Grows (s.handContrib l f).events := by
  unfold State.handContrib
  repeat' split
  all_goals first
    | exact .refl _
    | exact State.contribArrival_grows _ _ _ _
    | (unfold State.captureArrival; split <;> first | exact .refl _ | exact .offer _ _)

theorem State.ownReturn_grows (c : Configuration) (l : Lane) (f : Contrib) : s.events.Grows (s.ownReturn c l f).events := by
  unfold State.ownReturn
  repeat' split
  all_goals first | exact .refl _ | exact State.identityClash_grows _ _ _ _

theorem State.goodContrib_grows (l : Lane) (bs : List Byte) : s.events.Grows (s.goodContrib l bs).events := by
  unfold State.goodContrib
  repeat' split
  · exact (EventList.Grows.of_eq (by simp)).trans (State.ownReturn_grows (s.stripOwn l) _ _ _)
  · exact .of_eq (by simp)
  · exact .of_eq (by simp)
  · exact (EventList.Grows.of_eq (by simp)).trans (State.handContrib_grows (s.forwardFrame l bs) _ _)

theorem State.leaveArrival_grows (f : LeaveFrame) : s.events.Grows (s.leaveArrival f).events := by
  unfold State.leaveArrival
  repeat' split
  all_goals first | exact .refl _ | exact State.changeEntry_grows _ _ _

theorem State.goodLeave_grows (l : Lane) (bs : List Byte) : s.events.Grows (s.goodLeave l bs).events := by
  have hforward : s.events.Grows (s.forwardFrame l bs).events := .of_eq (by simp)
  have hstrip : s.events.Grows (s.stripOwn l).events := .of_eq (by simp)
  unfold State.goodLeave State.handLeave State.ownLeaveReturn
  repeat' split
  all_goals first
    | exact hstrip
    | exact hstrip.trans (State.identityClash_grows _ _ _ _)
    | exact hforward.trans (State.leaveArrival_grows _ _)
    | exact hforward

theorem State.frameChars_grows (l : Lane) (lead : Byte) (n : Nat) (chars : List Byte) :
    s.events.Grows (s.frameChars l lead n chars).events := by
  unfold State.frameChars State.frameEnds
  repeat' split
  · exact State.goodContrib_grows (s.mapLane l LaneState.accept) _ _
  · exact State.goodLeave_grows (s.mapLane l LaneState.accept) _ _
  all_goals exact .refl _

/-! ## Transmission and the life cycle -/

theorem State.transmissionComplete_grows (l : Lane) : s.events.Grows (s.transmissionComplete l).events := by
  unfold State.transmissionComplete
  split
  · dsimp only
    split
    · exact State.report_grows (s.mapLane l _) true
    · exact .refl _
  · exact .refl _

theorem State.configReadEnd_grows (b : List Byte) (x : BayLines) : s.events.Grows (s.configReadEnd b x).events := by
  unfold State.configReadEnd
  repeat' split
  · exact ((s.loadImage (configOf b) (sharedChecksum b)).transition_grows .stabilise .imageGood []).trans
      (.of_eq (by simp [State.enterStabilise]))
  · unfold State.enterConfigFault
    dsimp only
    simp only [State.acquireMark_frame]
    exact State.enter_grows _ _ _
  · exact .refl _

theorem State.enterHold_grows : s.events.Grows s.enterHold.events := by
  have hheld : s.events.Grows (s.abandonStart.stopForHold.enter .hold [[holdDraft s]]).events :=
    (EventList.Grows.of_eq (by simp)).trans (s.abandonStart.stopForHold.enter_grows .hold [[holdDraft s]])
  unfold State.enterHold
  dsimp only
  split
  · exact (hheld.trans (State.enqueueLeave_grows _ _ _)).trans (State.enqueueLeave_grows _ _ _)
  · exact hheld

theorem State.acceptLeave_grows : s.events.Grows s.acceptLeave.events := by
  unfold State.acceptLeave
  dsimp only
  refine EventList.Grows.trans ?_ (State.enqueueLeave_grows _ _ _)
  refine EventList.Grows.trans ?_ (State.enqueueLeave_grows _ _ _)
  exact State.transition_grows _ _ _ _

end

/-! ## The invariant -/

theorem State.resetBy_bounded {s : State} (h : s.events.bounded) (cause : ResetCause) (straps : Straps) :
    (s.resetBy cause straps).events.bounded := by
  rw [State.resetBy_events]
  refine EventList.bounded.offer ?_ _
  cases cause with
  | powerOn => exact ⟨Nat.zero_le _, Nat.zero_le _⟩
  | supplyRestore | commandedRestart => exact h

/-- Every operation keeps the Event List within its bounds. -/
theorem kept_eventsBounded : Kept fun s => s.events.bounded where
  power _ _ h := h
  reset _ cause straps h := State.resetBy_bounded h cause straps
  readEnd s b x h := h.grows (s.configReadEnd_grows b x)
  hold s h := h.grows s.enterHold_grows
  bareMark _ _ h := h.grows (.of_eq (by simp))
  localMark s x h := h.grows (s.localMark_grows x)
  roundMark s x h := h.grows (s.roundMark_grows x)
  rowClosed _ _ _ _ h := h.grows (.of_eq (by simp))
  block s c b _ h := h.grows (closeBlock_grows s c b)
  scan s n h := h.grows (s.scanComplete_grows n)
  contrib s l bs h := h.grows (s.frameChars_grows l leadContrib 24 bs)
  leaveFrame s l bs h := h.grows (s.frameChars_grows l leadLeave 12 bs)
  unknownLead _ _ _ h := h.grows (.of_eq (by simp))
  malformed _ _ h := h.grows (.of_eq (by simp))
  backToHunt _ _ h := h.grows (.of_eq (by simp))
  framing _ _ _ _ h := h.grows (.of_eq (by simp))
  truncation _ _ _ h := h.grows (.of_eq (by simp))
  clearSeen _ _ _ h := h.grows (.of_eq (by simp))
  sent s l h := h.grows (s.transmissionComplete_grows l)
  clearEnd _ _ h := h.grows (.of_eq (by simp))
  gapEnd _ _ h := h.grows (.of_eq (by simp))
  link _ _ h := h
  ack _ h := h
  release _ _ h := h
  leave s _ h := h.grows s.acceptLeave_grows
  read s m h := ⟨((List.drop_sublist m s.events.records).length_le).trans h.1, h.2⟩

/-- Settles O55: but for resets and the reading of records every operation only offers records, and offers keep the bounds. -/
theorem eventListStaysBounded : Obligations.EventListStaysBounded := fun s t hs hstep =>
  kept_eventsBounded.step (fun _ _ h => h) (fun _ h => h) s t hs hstep

end Sys2Proof.Machine
end

section
/-! PROOFS. The Trip Unit follows the station state: the output energised in PRESENT alone, the BF flag with an EXPIRED timer, the timer
out of IDLE in JOINING and PRESENT alone (R143, R145, R147 to R150). -/

namespace Sys2Proof.Machine

/-- A Trip Unit that fits a station state. -/
structure TripUnit.Suits (t : TripUnit) (st : StationState) : Prop where
  output : t.energised = true → st = .present
  flag : t.bfFlag = true ↔ t.bfTimer = .expired
  timer : t.bfTimer ≠ .idle → st.contributing = true

theorem State.tripSuits_iff (s : State) : s.trip.Suits s.life.state ↔ s.tripsWhilePresent ∧ s.bfFollowsTimer :=
  ⟨fun ⟨hout, hflag, htimer⟩ => ⟨hout, hflag, htimer⟩, fun ⟨hout, hflag, htimer⟩ => ⟨hout, hflag, htimer⟩⟩

/-- What a change of the station state leaves of the Trip Unit (R145, R150). -/
theorem tripExit_frame (old new : StationState) (t : TripUnit) :
    (tripExit old new t).effectiveConfirmation = t.effectiveConfirmation ∧
    (tripExit old new t).peakHistory = t.peakHistory ∧ (tripExit old new t).ownPeak = t.ownPeak ∧
    (tripExit old new t).latched = t.latched := by
  unfold tripExit
  dsimp only
  repeat' split
  all_goals exact ⟨rfl, rfl, rfl, rfl⟩

theorem tripExit_energised (old new : StationState) (t : TripUnit) :
    (tripExit old new t).energised = if old = .present ∧ new ≠ .present then false else t.energised := by
  unfold tripExit TripUnit.leavePresent TripUnit.leaveContributing
  dsimp only
  split <;> split <;> rfl

theorem tripExit_bf (old new : StationState) (t : TripUnit) :
    ((tripExit old new t).bfTimer, (tripExit old new t).bfCount, (tripExit old new t).bfFlag) =
      if old.contributing ∧ ¬ new.contributing then (.idle, 0, false) else (t.bfTimer, t.bfCount, t.bfFlag) := by
  unfold tripExit TripUnit.leavePresent TripUnit.leaveContributing
  dsimp only
  split <;> split <;> rfl

/-- A change of the station state takes a fitting Trip Unit to one that fits the new state. -/
theorem TripUnit.Suits.exit {t : TripUnit} {old : StationState} (h : t.Suits old) (new : StationState) :
    (tripExit old new t).Suits new := by
  obtain ⟨hout, hflag, htimer⟩ := h
  have hbf := tripExit_bf old new t
  refine ⟨fun he => ?_, ?_, fun ht => ?_⟩
  · rw [tripExit_energised] at he
    split at he
    · cases he
    · rename_i hstay
      by_contra hnew
      exact hstay ⟨hout he, hnew⟩
  · split at hbf
    · simp_all
    · simp_all
  · split at hbf
    · simp_all
    · rename_i hstay
      simp only [Prod.mk.injEq] at hbf
      rw [hbf.1] at ht
      by_contra hnew
      exact hstay ⟨htimer ht, hnew⟩

/-! ## The Trip Unit at a close -/

section
variable {s : State} (c : Configuration)

theorem State.takePeak_suits (h : s.trip.Suits s.life.state) : (s.takePeak c).trip.Suits s.life.state :=
  ⟨h.output, h.flag, h.timer⟩

theorem State.formCauses_suits (h : s.trip.Suits s.life.state) : (s.formCauses c).trip.Suits s.life.state := by
  unfold State.formCauses
  dsimp only
  split <;> exact ⟨h.output, h.flag, h.timer⟩

theorem State.decideOutput_suits (h : s.trip.Suits s.life.state) : (s.decideOutput c).trip.Suits s.life.state := by
  unfold State.decideOutput State.holdOutput State.energise
  dsimp only
  repeat' split
  · exact ⟨fun he => (Bool.false_ne_true he).elim, h.flag, h.timer⟩
  · exact ⟨h.output, h.flag, h.timer⟩
  · rename_i hcause
    simp only [Bool.and_eq_true, beq_iff_eq] at hcause
    obtain ⟨⟨-, hpresent⟩, -⟩ := hcause
    exact ⟨fun _ => hpresent, h.flag, h.timer⟩
  · exact h

theorem State.stepBf_suits (h : s.trip.Suits s.life.state) : (s.stepBf c).trip.Suits s.life.state := by
  unfold State.stepBf
  split
  · rename_i hst
    have htimer (t : TripUnit) (_ : t.bfTimer ≠ .idle) : s.life.state.contributing = true := hst
    unfold State.bfIdle State.bfRunning State.bfExpiredStep
    repeat' split
    all_goals exact ⟨h.output, by simp_all [h.flag], htimer _⟩
  · exact h

theorem State.tripClose_suits (h : s.trip.Suits s.life.state) : (s.tripClose c).trip.Suits s.life.state := by
  have hpeak := State.takePeak_suits c h
  have hform := State.formCauses_suits (s := s.takePeak c) c hpeak
  have hout := State.decideOutput_suits (s := (s.takePeak c).formCauses c) c (by simpa using hform)
  simpa [State.tripClose] using State.stepBf_suits (s := ((s.takePeak c).formCauses c).decideOutput c) c (by simpa using hout)

theorem State.controllerClose_suits (h : s.trip.Suits s.life.state) :
    (s.controllerClose c).trip.Suits (s.controllerClose c).life.state := by
  obtain ⟨x, hx, -, ht | ⟨-, r, ht⟩ | ⟨-, ht⟩⟩ := s.controllerClose_cases c <;> rw [ht]
  · simpa [hx] using h
  · simpa [hx] using h.exit .excluded
  · simpa [hx] using h.exit .present

theorem closeBlock_suits (h : s.trip.Suits s.life.state) (b : CloseBlock) :
    (closeBlock c s b).trip.Suits (closeBlock c s b).life.state := by
  cases b with
  | trip => simpa [closeBlock] using State.tripClose_suits c h
  | controller => exact State.controllerClose_suits c h
  | health | membership | replica | zones | timer => simpa [closeBlock] using h

end

/-! ## The other operations -/

section
variable {s : State}

theorem State.report_suits (h : s.trip.Suits s.life.state) (sent : Bool) :
    (s.report sent).trip.Suits (s.report sent).life.state := by
  rcases s.report_cases sent with ⟨hstate, htrip, -⟩ | ⟨hold, hstate, htrip, -⟩
  · rwa [hstate, htrip]
  · rw [hstate, htrip]
    exact (hold ▸ h).exit .out

theorem State.enqueueLeave_suits (h : s.trip.Suits s.life.state) (l : Lane) (f : QueuedFrame) :
    (s.enqueueLeave l f).trip.Suits (s.enqueueLeave l f).life.state := by
  unfold State.enqueueLeave
  split
  · simpa using h
  · exact State.report_suits (by simpa using h) false

theorem State.localMark_suits (h : s.trip.Suits s.life.state) (x : BayLines) :
    (s.localMark x).trip.Suits (s.localMark x).life.state := by
  unfold State.localMark
  split
  · dsimp only
    split
    · simpa [State.settle, State.passTo, State.localMarkBlocks] using h.exit .listen
    · split
      · simpa [State.startNumbering, State.passTo] using h.exit .joining
      · simpa [State.localMarkBlocks, State.passTo] using h
  · exact h

theorem State.roundMark_suits (h : s.trip.Suits s.life.state) (x : BayLines) :
    (s.roundMark x).trip.Suits (s.roundMark x).life.state := by
  unfold State.roundMark
  split
  · split
    · exact h
    · dsimp only
      split
      · simpa [State.passTo] using h.exit .joining
      · simpa [State.passTo] using h
  · exact h

theorem State.configReadEnd_suits (h : s.trip.Suits s.life.state) (b : List Byte) (x : BayLines) :
    (s.configReadEnd b x).trip.Suits (s.configReadEnd b x).life.state := by
  unfold State.configReadEnd
  repeat' split
  · simpa [State.enterStabilise, State.loadImage] using h.exit .stabilise
  · simpa [State.enterConfigFault] using h.exit .configFault
  · exact h

theorem State.enterHold_suits (h : s.trip.Suits s.life.state) : s.enterHold.trip.Suits s.enterHold.life.state := by
  have hheld : (s.abandonStart.stopForHold.enter .hold [[holdDraft s]]).trip.Suits
      (s.abandonStart.stopForHold.enter .hold [[holdDraft s]]).life.state := by
    simpa using h.exit .hold
  unfold State.enterHold
  dsimp only
  split
  · exact State.enqueueLeave_suits (State.enqueueLeave_suits hheld _ _) _ _
  · exact hheld

theorem State.acceptLeave_suits (h : s.trip.Suits s.life.state) : s.acceptLeave.trip.Suits s.acceptLeave.life.state := by
  unfold State.acceptLeave
  dsimp only
  refine State.enqueueLeave_suits (State.enqueueLeave_suits ?_ _ _) _ _
  simpa using h.exit .leaving

theorem State.scanComplete_suits (h : s.trip.Suits s.life.state) (n : ScanCounts) :
    (s.scanComplete n).trip.Suits (s.scanComplete n).life.state := by
  rw [State.scanComplete_state]
  rcases s.scanComplete_trip n with ht | ⟨c, e, -, ht⟩ <;> rw [ht]
  · exact h
  · exact ⟨h.output, h.flag, h.timer⟩

theorem State.transmissionComplete_suits (h : s.trip.Suits s.life.state) (l : Lane) :
    (s.transmissionComplete l).trip.Suits (s.transmissionComplete l).life.state := by
  unfold State.transmissionComplete
  split
  · dsimp only
    split
    · exact State.report_suits (by simpa using h) true
    · simpa using h
  · exact h

end

/-- Every operation keeps the Trip Unit to the station state. -/
theorem kept_tripSuits : Kept fun s => s.trip.Suits s.life.state where
  power _ _ h := h
  reset _ _ _ _ := ⟨fun h => (Bool.false_ne_true h).elim, by simp [State.resetBy, TripUnit.initial], fun h => (h rfl).elim⟩
  readEnd _ b x h := State.configReadEnd_suits h b x
  hold _ h := State.enterHold_suits h
  bareMark _ _ h := by simpa using h
  localMark _ x h := State.localMark_suits h x
  roundMark _ x h := State.roundMark_suits h x
  rowClosed _ _ _ _ h := by simpa using h
  block _ c b _ h := closeBlock_suits c h b
  scan _ n h := State.scanComplete_suits h n
  contrib _ _ _ h := by simpa using h
  leaveFrame _ _ _ h := by simpa using h
  unknownLead _ _ _ h := by simpa using h
  malformed _ _ h := by simpa using h
  backToHunt _ _ h := by simpa using h
  framing _ _ _ _ h := by simpa using h
  truncation _ _ _ h := by simpa using h
  clearSeen _ _ _ h := by simpa using h
  sent _ l h := State.transmissionComplete_suits h l
  clearEnd _ _ h := by simpa using h
  gapEnd _ _ h := by simpa using h
  link _ _ h := h
  ack _ h := ⟨h.output, h.flag, h.timer⟩
  release _ _ h := h
  leave _ _ h := State.acceptLeave_suits h
  read _ _ h := h

/-- Settles O56: a change of the station state releases what the new state does not admit, and in between the Trip Unit acts in the
states that admit it. -/
theorem tripUnitStaysConsistent : Obligations.TripUnitStaysConsistent := by
  intro s t htrips hbf hstep
  have hsuits : s.trip.Suits s.life.state := s.tripSuits_iff.mpr ⟨htrips, hbf⟩
  exact t.tripSuits_iff.mp (kept_tripSuits.step (fun _ _ h => h) (fun _ h => by simpa using h) s t hsuits hstep)

end Sys2Proof.Machine
end

section
/-! PROOFS. The timer's mode, the configuration and the open row follow the station state (R1, R4, R156): marks move the round on to the
open row, closes open the next one, an adoption opens the row after its round. -/

namespace Sys2Proof.Machine

/-- Mode, configuration and open row fit the station state. -/
structure State.Timed (s : State) : Prop where
  mode : s.life.state.admits s.timer.mode = true
  config : s.life.state.admitsConfig s.life.config.isSome = true
  row : s.oneRowOpen

theorem State.timed_iff (s : State) : s.Timed ↔ s.modeFollows ∧ s.oneRowOpen :=
  ⟨fun ⟨hmode, hconfig, hrow⟩ => ⟨⟨hmode, hconfig⟩, hrow⟩, fun ⟨⟨hmode, hconfig⟩, hrow⟩ => ⟨hmode, hconfig, hrow⟩⟩

/-! ## The open row -/

theorem RoundTimer.opens_map (t : RoundTimer) (row : Option Row) {g : Row → Row} (hg : ∀ r, (g r).round = r.round) :
    t.opens (row.map g) = t.opens row := by
  cases row with
  | none => rfl
  | some r => simp [RoundTimer.opens, hg]

/-- The row of the next round is open. -/
theorem RoundTimer.opens_next {t : RoundTimer} {k : Round} (h : k = t.round + 1) : t.opens (some (Row.fresh k)) = true := by
  simp [RoundTimer.opens, Row.fresh, h]

theorem State.closeAhead_iff (s : State) : s.closeAhead = true ↔
    s.timer.mode = .numbered ∧ s.timer.captured = false ∧ ∃ r, s.table.openRow = some r ∧ r.round = s.timer.round := by
  unfold State.closeAhead
  cases s.table.openRow with
  | none => simp
  | some r => simp [and_assoc]

/-- With an open row and no close point ahead it is the next round's row that is open. -/
theorem State.opens_next_of_no_close {s : State} (hm : s.timer.mode = .numbered) (ha : s.closeAhead = false)
    (ho : s.timer.opens s.table.openRow = true) : ∃ r, s.table.openRow = some r ∧ r.round = s.timer.round + 1 := by
  have hahead := s.closeAhead_iff
  rw [ha] at hahead
  unfold RoundTimer.opens at ho
  split at ho
  · rename_i r hr
    simp only [Bool.or_eq_true, Bool.and_eq_true, Bool.not_eq_true', beq_iff_eq] at ho
    rcases ho with ⟨hround, hcaptured⟩ | hround
    · exact (Bool.false_ne_true (hahead.mpr ⟨hm, hcaptured, r, hr, hround⟩)).elim
    · exact ⟨r, hr, hround⟩
  · cases ho

/-! ## What an operation does to timer and row -/

/-- The timer stays, and the open row keeps its round. -/
def State.KeepsRow (s t : State) : Prop :=
  t.timer = s.timer ∧ ∃ g : Row → Row, (∀ r, (g r).round = r.round) ∧ t.table.openRow = s.table.openRow.map g

theorem State.KeepsRow.of_eq {s t : State} (ht : t.timer = s.timer) (hr : t.table.openRow = s.table.openRow) : s.KeepsRow t :=
  ⟨ht, id, fun _ => rfl, by simp [hr]⟩

theorem State.KeepsRow.trans {s t u : State} (h : s.KeepsRow t) (h' : t.KeepsRow u) : s.KeepsRow u := by
  obtain ⟨ht, g, hg, hr⟩ := h
  obtain ⟨ht', g', hg', hr'⟩ := h'
  exact ⟨ht'.trans ht, g' ∘ g, fun r => (hg' _).trans (hg r), by rw [hr', hr, Option.map_map]⟩

theorem State.KeepsRow.of_map {s t : State} {g : Row → Row} (ht : t.timer = s.timer)
    (hr : t.table.openRow = s.table.openRow.map g) (hg : ∀ r, (g r).round = r.round) : s.KeepsRow t :=
  ⟨ht, g, hg, hr⟩

/-- A peer's numbering is adopted, in LISTEN or in PRESENT (R10, R14). -/
def State.Adopts (s t : State) : Prop :=
  (s.life.state = .listen ∨ s.life.state = .present) ∧ ∃ (c : Configuration) (r : Round) (phase : Nat),
    t.timer = s.timer.adopt c.period s.now r phase ∧ t.table.openRow = some (Row.fresh (r + 1))

section
variable {s t : State}

theorem State.Timed.of_eq (h : s.Timed) (hl : t.life.state = s.life.state) (hc : t.life.config = s.life.config)
    (ht : t.timer = s.timer) (hr : t.table = s.table) : t.Timed := by
  obtain ⟨hmode, hconfig, hrow⟩ := h
  exact ⟨by rwa [hl, ht], by rwa [hl, hc], by unfold State.oneRowOpen; rwa [ht, hr]⟩

theorem State.Timed.keepsRow (h : s.Timed) (hl : t.life = s.life) (hk : s.KeepsRow t) : t.Timed := by
  obtain ⟨hmode, hconfig, hrow⟩ := h
  obtain ⟨htimer, g, hg, hopen⟩ := hk
  refine ⟨by rwa [hl, htimer], by rwa [hl], fun hm => ?_⟩
  rw [htimer] at hm
  rw [htimer, hopen, RoundTimer.opens_map _ _ hg]
  exact hrow hm

theorem State.Timed.adopts (h : s.Timed) (hl : t.life = s.life) (ha : s.Adopts t) : t.Timed := by
  obtain ⟨hstate, c, r, phase, htimer, hopen⟩ := ha
  refine ⟨?_, by rw [hl]; exact h.config, fun _ => ?_⟩
  · rw [hl, htimer]
    rcases hstate with hstate | hstate <;> rw [hstate] <;> rfl
  · rw [htimer, hopen]
    exact RoundTimer.opens_next rfl

/-- A change between two states that admit the timer's mode and a configuration. -/
theorem State.Timed.move (h : s.Timed) {new : StationState} (hl : t.life.state = new) (hc : t.life.config = s.life.config)
    (ht : t.timer = s.timer) (hr : t.table = s.table) (hm : new.admits s.timer.mode = true)
    (hn : new.admitsConfig s.life.config.isSome = true) : t.Timed := by
  obtain ⟨-, -, hrow⟩ := h
  exact ⟨by rwa [hl, ht], by rwa [hl, hc], by unfold State.oneRowOpen; rwa [ht, hr]⟩

/-- JOINING, PRESENT and LEAVING run in NUMBERED, with a configuration. -/
theorem State.Timed.working (h : s.Timed) (hw : s.life.state.working = true) :
    s.timer.mode = .numbered ∧ s.life.config.isSome = true := by
  obtain ⟨hmode, hconfig, -⟩ := h
  revert hmode hconfig hw
  cases s.life.state <;> cases s.timer.mode <;> cases s.life.config.isSome <;> decide

/-- The states from LEAVING on run in NUMBERED, with a configuration. -/
theorem State.Timed.leave (h : s.Timed) (hw : s.life.state.working = true) {new : StationState}
    (hnew : new.admits .numbered = true ∧ new.admitsConfig true = true) (hl : t.life.state = new)
    (hc : t.life.config = s.life.config) (ht : t.timer = s.timer) (hr : t.table = s.table) : t.Timed := by
  obtain ⟨hm, hsome⟩ := h.working hw
  exact h.move hl hc ht hr (hm ▸ hnew.1) (hsome ▸ hnew.2)

theorem StationState.working_of_contributing {st : StationState} (h : st.contributing = true) : st.working = true := by
  cases st <;> first | rfl | cases h

/-! ## Arrivals -/

section
variable (s) (c : Configuration) (l : Lane)

theorem State.identityClash_keepsRow (lead : Byte) (r : Round) : s.KeepsRow (s.identityClash lead r l) := by
  have hcount (f : TableCounters → TableCounters) : s.KeepsRow (s.countTable f) := .of_eq rfl rfl
  unfold State.identityClash
  dsimp only
  repeat' split
  · exact hcount _
  · exact .of_map rfl rfl fun _ => rfl
  · exact hcount _

theorem Row.setReturned_round (r : Row) : (r.setReturned l).round = r.round := by cases l <;> rfl

theorem State.ownReturn_keepsRow (f : Contrib) : s.KeepsRow (s.ownReturn c l f) := by
  have hcount (g : TableCounters → TableCounters) : s.KeepsRow (s.countTable g) := .of_eq rfl rfl
  unfold State.ownReturn
  repeat' split
  · exact .of_map rfl rfl (Row.setReturned_round l)
  all_goals first | exact hcount _ | exact s.identityClash_keepsRow _ _ _

theorem State.ownLeaveReturn_keepsRow (f : LeaveFrame) : s.KeepsRow (s.ownLeaveReturn l f) := by
  unfold State.ownLeaveReturn
  split
  · exact .of_eq rfl rfl
  · exact s.identityClash_keepsRow _ _ _

theorem State.refuseArrival_keepsRow (f : Contrib) (e : Entry) : s.KeepsRow (s.refuseArrival f e) := by
  have hchange : s.KeepsRow (s.changeEntry e Entry.refuse) := .of_eq (by simp) (by simp)
  unfold State.refuseArrival
  dsimp only
  split
  · exact hchange.trans (.of_map rfl rfl fun _ => rfl)
  · exact hchange

theorem State.slotArrival_keepsRow (f : Contrib) (r : Row) : s.KeepsRow (s.slotArrival c l f r) := by
  unfold State.slotArrival
  repeat' split
  · exact .of_map rfl rfl fun _ => rfl
  · exact .of_eq rfl rfl
  · exact .of_map rfl rfl fun _ => rfl
  · exact .of_eq rfl rfl

/-- A CONTRIB for the Round Table leaves the timer and the open row's round, or is adopted from in PRESENT. -/
theorem State.contribArrival_timed (f : Contrib) : s.KeepsRow (s.contribArrival c l f) ∨ s.Adopts (s.contribArrival c l f) := by
  have hkeep (n : Nat) (g : Entry → Entry) : s.KeepsRow (s.mapEntry n g) := .of_eq rfl rfl
  unfold State.contribArrival
  split
  · exact .inl (.of_eq rfl rfl)
  · repeat' split
    · exact .inl (s.refuseArrival_keepsRow _ _)
    · exact .inl (hkeep _ _)
    · exact .inl (s.slotArrival_keepsRow _ _ _ _)
    · exact .inl (hkeep _ _)
    · unfold State.outOfWindowArrival
      dsimp only
      split
      · rename_i htest
        simp only [State.recaptureTest, Bool.and_eq_true, beq_iff_eq] at htest
        obtain ⟨⟨⟨⟨⟨hpresent, -⟩, -⟩, -⟩, -⟩, -⟩ := htest
        exact .inr ⟨.inr hpresent, c, f.round, capturedPhase c f.age, by simp [State.recapture, State.adopt],
          by simp [State.recapture, State.adopt, RoundTable.adopt]⟩
      · exact .inl (.of_map rfl rfl fun _ => rfl)
    · exact .inl (.of_eq rfl rfl)

/-- A CONTRIB handed on leaves the timer and the open row's round, or is adopted from. -/
theorem State.handContrib_timed (f : Contrib) : s.KeepsRow (s.handContrib l f) ∨ s.Adopts (s.handContrib l f) := by
  unfold State.handContrib
  split
  · exact .inl (.of_eq rfl rfl)
  · split
    · rename_i hlisten
      split
      · exact s.contribArrival_timed _ _ _
      · unfold State.captureArrival
        split
        · exact .inr ⟨.inl hlisten, _, _, _, rfl, rfl⟩
        · exact .inl (.of_eq rfl rfl)
    all_goals first | exact s.contribArrival_timed _ _ _ | exact .inl (.of_eq rfl rfl)

end

theorem State.Timed.frameChars (h : s.Timed) (l : Lane) (lead : Byte) (n : Nat) (chars : List Byte) :
    (s.frameChars l lead n chars).Timed := by
  have hlane (g : LaneState → LaneState) : (s.mapLane l g).Timed := h.of_eq rfl rfl rfl rfl
  have hcontrib (u : State) (hu : u.Timed) (bs : List Byte) : (u.goodContrib l bs).Timed := by
    have hstrip : (u.stripOwn l).Timed := hu.of_eq rfl rfl rfl rfl
    have hforward : (u.forwardFrame l bs).Timed := hu.of_eq (by simp) (by simp) (by simp) (by simp)
    unfold State.goodContrib
    repeat' split
    · exact hstrip.keepsRow (by simp) (State.ownReturn_keepsRow _ _ _ _)
    · exact hstrip
    · exact hstrip
    · rcases State.handContrib_timed (u.forwardFrame l bs) l (readContrib bs) with hk | ha
      · exact hforward.keepsRow (by simp) hk
      · exact hforward.adopts (by simp) ha
  have hleave (u : State) (hu : u.Timed) (bs : List Byte) : (u.goodLeave l bs).Timed := by
    have hstrip : (u.stripOwn l).Timed := hu.of_eq rfl rfl rfl rfl
    have hforward : (u.forwardFrame l bs).Timed := hu.of_eq (by simp) (by simp) (by simp) (by simp)
    unfold State.goodLeave
    repeat' split
    · exact hstrip.keepsRow (by simp) (State.ownLeaveReturn_keepsRow _ _ _)
    · exact hstrip
    · exact hforward.of_eq (by simp) (by simp) (by simp) (by simp)
  unfold State.frameChars State.frameEnds
  repeat' split
  · exact hcontrib _ (hlane _) _
  · exact hleave _ (hlane _) _
  · exact hlane _
  · exact hlane _
  all_goals exact h

/-! ## Marks and closes -/

theorem State.Timed.bareMark (h : s.Timed) (x : BayLines) : (s.bareMark x).Timed := by
  unfold State.bareMark
  split
  · rename_i hm
    obtain ⟨hmode, hconfig, -⟩ := h
    exact ⟨by simpa [RoundTimer.bareMark, RoundTimer.addMark, State.passTo, State.elapse] using hmode,
      by simpa [State.passTo] using hconfig,
      fun hn => by simp [RoundTimer.bareMark, RoundTimer.addMark, State.passTo, State.elapse, hm] at hn⟩
  · exact h

theorem State.Timed.localMark (h : s.Timed) (x : BayLines) : (s.localMark x).Timed := by
  obtain ⟨hmode, hconfig, hrow⟩ := h
  unfold State.localMark
  split
  · rename_i c hm hc
    dsimp only
    split
    · exact ⟨by simp [State.settle, State.localMarkBlocks, RoundTimer.localMark, RoundTimer.addMark, State.passTo,
          State.elapse, hm, StationState.admits],
        by simp [State.settle, State.localMarkBlocks, State.passTo, hc, StationState.admitsConfig],
        fun hn => by simp [State.settle, State.localMarkBlocks, RoundTimer.localMark, RoundTimer.addMark, State.passTo,
          State.elapse, hm] at hn⟩
    · split
      · exact ⟨by simp [State.startNumbering, RoundTimer.startNumbering, StationState.admits],
          by simp [State.startNumbering, State.passTo, hc, StationState.admitsConfig],
          fun _ => by simp [State.startNumbering, RoundTimer.startNumbering, RoundTimer.opens, Row.fresh]⟩
      · rw [hm] at hmode
        exact ⟨by simpa [State.localMarkBlocks, RoundTimer.localMark, RoundTimer.addMark, State.passTo, State.elapse, hm]
            using hmode,
          by simpa [State.localMarkBlocks, State.passTo] using hconfig,
          fun hn => by simp [State.localMarkBlocks, RoundTimer.localMark, RoundTimer.addMark, State.passTo, State.elapse,
            hm] at hn⟩
  · exact ⟨hmode, hconfig, hrow⟩

theorem State.Timed.roundMark (h : s.Timed) (x : BayLines) : (s.roundMark x).Timed := by
  obtain ⟨hmode, hconfig, hrow⟩ := h
  unfold State.roundMark
  split
  · rename_i c hm hc
    split
    · exact ⟨hmode, hconfig, hrow⟩
    · rename_i hahead
      obtain ⟨r, hr, hround⟩ := State.opens_next_of_no_close hm (Bool.eq_false_iff.mpr hahead) (hrow hm)
      dsimp only
      split
      · refine ⟨by simp [RoundTimer.roundMark, RoundTimer.addMark, State.passTo, State.elapse, hm, StationState.admits],
          by simp [State.passTo, hc, StationState.admitsConfig], fun _ => ?_⟩
        simp [RoundTimer.opens, RoundTimer.roundMark, State.passTo, State.elapse, hr, hround]
      · refine ⟨by simpa [RoundTimer.roundMark, RoundTimer.addMark, State.passTo, State.elapse] using hmode,
          by simpa [State.passTo] using hconfig, fun _ => ?_⟩
        simp [RoundTimer.opens, RoundTimer.roundMark, State.passTo, State.elapse, hr, hround]
  · exact ⟨hmode, hconfig, hrow⟩

theorem State.Timed.rowClosed (h : s.Timed) (c : Configuration) (hdue : s.closeDue = true) : (s.rowClosed c).Timed := by
  obtain ⟨hmode, hconfig, -⟩ := h
  obtain ⟨-, -, r, hr, hround⟩ := s.closeAhead_iff.mp (Bool.and_eq_true_iff.mp hdue).1
  refine ⟨by simpa [State.rowClosed, State.passTo, State.elapse] using hmode, by simpa using hconfig, fun _ => ?_⟩
  simp [State.rowClosed, State.passTo, State.elapse, RoundTable.close, hr, RoundTimer.opens, Row.fresh, hround]

theorem State.timerClose_timer (s : State) (c : Configuration) : (s.timerClose c).timer.mode = s.timer.mode ∧
    (s.timerClose c).timer.round = s.timer.round ∧ (s.timerClose c).timer.captured = s.timer.captured ∧
    (s.timerClose c).timer.phase = s.timer.phase ∧ (s.timerClose c).timer.history = s.timer.history := by
  unfold State.timerClose
  repeat' split
  all_goals simp

theorem State.Timed.closeBlock (h : s.Timed) (c : Configuration) (b : CloseBlock) : (Machine.closeBlock c s b).Timed := by
  cases b with
  | timer =>
    obtain ⟨hmode, hconfig, hrow⟩ := h
    obtain ⟨hm, hr, hc, -, -⟩ := s.timerClose_timer c
    refine ⟨by simpa [Machine.closeBlock, hm] using hmode, by simpa [Machine.closeBlock] using hconfig, fun hn => ?_⟩
    have ho := hrow (by simpa [Machine.closeBlock, hm] using hn)
    simpa [Machine.closeBlock, RoundTimer.opens, hr, hc] using ho
  | controller =>
    obtain ⟨x, hx, hcx, ht | ⟨hcontributing, r, ht⟩ | ⟨hjoining, ht⟩⟩ := s.controllerClose_cases c
    · exact h.of_eq (by simp [Machine.closeBlock, ht, hx]) (by simp [Machine.closeBlock, ht, hcx])
        (by simp [Machine.closeBlock]) (by simp [Machine.closeBlock])
    · exact h.leave (StationState.working_of_contributing hcontributing) (new := .excluded) ⟨rfl, rfl⟩
        (by simp [Machine.closeBlock, ht]) (by simp [Machine.closeBlock]) (by simp [Machine.closeBlock])
        (by simp [Machine.closeBlock])
    · exact h.leave (by simp [hjoining, StationState.working]) (new := .present) ⟨rfl, rfl⟩
        (by simp [Machine.closeBlock, ht]) (by simp [Machine.closeBlock]) (by simp [Machine.closeBlock])
        (by simp [Machine.closeBlock])
  | health | membership | replica | zones | trip =>
    exact h.of_eq (by simp [Machine.closeBlock]) (by simp [Machine.closeBlock]) (by simp [Machine.closeBlock])
      (by simp [Machine.closeBlock])

/-! ## The life cycle and the scans -/

theorem State.Timed.report (h : s.Timed) (sent : Bool) : (s.report sent).Timed := by
  rcases s.report_cases sent with ⟨hstate, -⟩ | ⟨hold, hstate, -⟩
  · exact h.of_eq hstate (by simp) (by simp) (by simp)
  · exact h.leave (by simp [hold, StationState.working]) (new := .out) ⟨rfl, rfl⟩ hstate (by simp) (by simp) (by simp)

theorem State.Timed.enqueueLeave (h : s.Timed) (l : Lane) (f : QueuedFrame) : (s.enqueueLeave l f).Timed := by
  unfold State.enqueueLeave
  split
  · exact h.of_eq (by simp) (by simp) (by simp) (by simp)
  · exact (State.Timed.of_eq (s := s) (t := s.dropFrame l) h rfl rfl rfl rfl).report false

theorem State.Timed.transmissionComplete (h : s.Timed) (l : Lane) : (s.transmissionComplete l).Timed := by
  have hlane (g : LaneState → LaneState) : (s.mapLane l g).Timed := h.of_eq rfl rfl rfl rfl
  unfold State.transmissionComplete
  split
  · dsimp only
    split
    · exact (hlane _).report true
    · exact hlane _
  · exact h

theorem State.Timed.acceptLeave (h : s.Timed) (hst : s.life.state.contributing = true) : s.acceptLeave.Timed := by
  unfold State.acceptLeave
  dsimp only
  refine State.Timed.enqueueLeave (State.Timed.enqueueLeave ?_ _ _) _ _
  exact h.leave (StationState.working_of_contributing hst) (new := .leaving) ⟨rfl, rfl⟩ (by simp) (by simp) (by simp) (by simp)

theorem State.enterHold_timed (s : State) : s.enterHold.Timed := by
  have hheld : (s.abandonStart.stopForHold.enter .hold [[holdDraft s]]).Timed :=
    ⟨by simp [State.stopForHold, StationState.admits], by simp [StationState.admitsConfig],
      fun hn => by simp [State.stopForHold] at hn⟩
  unfold State.enterHold
  dsimp only
  split
  · exact (hheld.enqueueLeave _ _).enqueueLeave _ _
  · exact hheld

theorem State.Timed.config_of_start (h : s.Timed) (hst : s.life.state = .start) : s.life.config = none := by
  have hc := h.config
  rw [hst] at hc
  simpa [StationState.admitsConfig] using hc

theorem State.Timed.configReadEnd (h : s.Timed) (b : List Byte) (x : BayLines) : (s.configReadEnd b x).Timed := by
  unfold State.configReadEnd
  split
  · rename_i hstart
    split
    · exact ⟨by simp [State.enterStabilise, State.loadImage, RoundTimer.localMark, RoundTimer.addMark, StationState.admits],
        by simp [State.enterStabilise, State.loadImage, StationState.admitsConfig],
        fun hn => by simp [State.enterStabilise, State.loadImage, RoundTimer.localMark, RoundTimer.addMark] at hn⟩
    · exact ⟨by simp [State.enterConfigFault, RoundTimer.bareMark, RoundTimer.addMark, StationState.admits],
        by simp [State.enterConfigFault, StationState.admitsConfig, h.config_of_start hstart.1],
        fun hn => by simp [State.enterConfigFault, RoundTimer.bareMark, RoundTimer.addMark] at hn⟩
  · exact h

theorem State.ownBuild_keepsRow (s : State) (c : Configuration) (k : Round) (i : Tri Int) (q : Quality) (p : Positions) :
    s.KeepsRow (s.ownBuild c k i q p) := by
  unfold State.ownBuild
  dsimp only
  split
  · refine .of_map (g := fun r => r.setBody c.station (.filled (s.ownContent i q p) none)) (by simp) (by simp) fun _ => rfl
  · exact .of_eq rfl rfl

theorem State.scanComplete_keepsRow (s : State) (n : ScanCounts) : s.KeepsRow (s.scanComplete n) := by
  have hu : s.KeepsRow (s.scanUnit n) := .of_eq (by simp) (by simp)
  unfold State.scanComplete
  split
  · exact .of_eq rfl rfl
  · dsimp only
    split
    · refine hu.trans ?_
      unfold State.handOn
      repeat' split
      · exact (State.ownBuild_keepsRow _ _ _ _ _ _).trans (.of_eq rfl rfl)
      all_goals exact .of_eq rfl rfl
    · exact hu

end

/-- Every operation keeps mode, configuration and open row to the station state. -/
theorem kept_timed : Kept State.Timed where
  power _ _ h := h.of_eq rfl rfl rfl rfl
  reset _ _ _ _ := ⟨rfl, rfl, fun hn => by simp [State.resetBy, RoundTimer.initial] at hn⟩
  readEnd _ b x h := h.configReadEnd b x
  hold s _ := s.enterHold_timed
  bareMark _ x h := h.bareMark x
  localMark _ x h := h.localMark x
  roundMark _ x h := h.roundMark x
  rowClosed _ c _ hdue h := h.rowClosed c hdue
  block _ c b _ h := h.closeBlock c b
  scan s n h := by
    obtain ⟨hmode, hconfig, hrow⟩ := h
    obtain ⟨htimer, g, hg, hopen⟩ := s.scanComplete_keepsRow n
    refine ⟨by rwa [State.scanComplete_state, htimer], by rwa [State.scanComplete_state, State.scanComplete_config],
      fun hn => ?_⟩
    rw [htimer] at hn
    rw [htimer, hopen, RoundTimer.opens_map _ _ hg]
    exact hrow hn
  contrib _ l bs h := h.frameChars l leadContrib 24 bs
  leaveFrame _ l bs h := h.frameChars l leadLeave 12 bs
  unknownLead _ _ _ h := h.of_eq (by simp) (by simp) (by simp) (by simp)
  malformed _ _ h := h.of_eq (by simp) (by simp) (by simp) (by simp)
  backToHunt _ _ h := h.of_eq (by simp) (by simp) (by simp) (by simp)
  framing _ _ _ _ h := h.of_eq (by simp) (by simp) (by simp) (by simp)
  truncation _ _ _ h := h.of_eq (by simp) (by simp) (by simp) (by simp)
  clearSeen _ _ _ h := h.of_eq (by simp) (by simp) (by simp) (by simp)
  sent _ l h := h.transmissionComplete l
  clearEnd _ _ h := h.of_eq (by simp) (by simp) (by simp) (by simp)
  gapEnd _ _ h := h.of_eq (by simp) (by simp) (by simp) (by simp)
  link _ _ h := h.of_eq rfl rfl rfl rfl
  ack _ h := h.of_eq rfl rfl rfl rfl
  release _ _ h := h.of_eq rfl rfl rfl rfl
  leave _ hst h := h.acceptLeave hst
  read _ _ h := h.of_eq rfl rfl rfl rfl

/-- Settles O57: marks, closes, adoptions and changes of the station state each leave a mode, a configuration and an open row that fit
the new state. -/
theorem modeAndRowFollow : Obligations.ModeAndRowFollow := by
  intro s t hmode hrow hstep
  have htimed : s.Timed := s.timed_iff.mpr ⟨hmode, hrow⟩
  refine t.timed_iff.mp (kept_timed.step (fun _ _ h => h.of_eq rfl rfl rfl rfl) (fun u h => ?_) s t htimed hstep)
  obtain ⟨hm, hc, hr⟩ := h
  exact ⟨hm, hc, hr⟩

end Sys2Proof.Machine
end

section
/-! PROOFS. The zones agree: CZ never trips, the verdict is the set of TRIPPED busbar zones, and a merged B equals A (R123, R128, R132);
with what each step of one zone leaves of its record (R120). -/

namespace Sys2Proof.Machine

/-! ## What the steps before the state transition leave alone -/

/-- The state of a zone with its three counts, which the state transition alone changes (R121 to R125). -/
def ZoneRecord.standing (z : ZoneRecord) : ZoneState × Nat × Nat × Nat := (z.state, z.armingCount, z.gapCount, z.clearRun)

section
variable (c : Configuration) (x : ZoneInputs) (z : ZoneRecord)

theorem ZoneRecord.standing_eq {w : ZoneRecord} : w.standing = z.standing ↔
    w.state = z.state ∧ w.armingCount = z.armingCount ∧ w.gapCount = z.gapCount ∧ w.clearRun = z.clearRun := by
  simp [ZoneRecord.standing]

@[simp] theorem ZoneRecord.clearWindows_standing : z.clearWindows.standing = z.standing := rfl
@[simp] theorem ZoneRecord.clearWindows_latch : z.clearWindows.latch = z.latch := rfl

theorem stepMembers_standing : (stepMembers x z).standing = z.standing := by unfold stepMembers; split <;> rfl

theorem stepRelease_standing : (stepRelease c x z).standing = z.standing := by unfold stepRelease; split <;> rfl

theorem stepRuns_standing : (stepRuns c x z).standing = z.standing := by unfold stepRuns; split <;> rfl

theorem stepLatch_standing : (stepLatch c x z).standing = z.standing := by unfold stepLatch; split <;> rfl

/-- Steps 2 to 6 leave the state and the counts alone. -/
theorem zoneJudged_standing : (zoneJudged c x z).standing = z.standing :=
  calc (zoneJudged c x z).standing
    _ = (stepLatch c x (zoneSupervised c x z)).standing := rfl
    _ = (zoneSupervised c x z).standing := stepLatch_standing ..
    _ = (stepRelease c x (zoneMeasured c x z)).standing := stepRuns_standing ..
    _ = (zoneMeasured c x z).standing := stepRelease_standing ..
    _ = (stepMembers x z).standing := rfl
    _ = z.standing := stepMembers_standing ..

@[simp] theorem zoneJudged_state : (zoneJudged c x z).state = z.state := congrArg Prod.fst (zoneJudged_standing c x z)

@[simp] theorem zoneJudged_counts : (zoneJudged c x z).armingCount = z.armingCount ∧
    (zoneJudged c x z).gapCount = z.gapCount ∧ (zoneJudged c x z).clearRun = z.clearRun :=
  ((ZoneRecord.standing_eq z).mp (zoneJudged_standing c x z)).2

/-! ## The state transition decides -/

/-- A zone's steps leave it in the state, with the counts, that the state transition gives it. -/
theorem zoneSteps_standing : (zoneSteps c x z).zone.standing = (stepState c x (zoneJudged c x z)).1.standing := by
  unfold zoneSteps
  dsimp only
  split <;> rfl

@[simp] theorem zoneSteps_state : (zoneSteps c x z).zone.state = (stepState c x (zoneJudged c x z)).1.state :=
  congrArg Prod.fst (zoneSteps_standing c x z)

theorem zoneSteps_counts : (zoneSteps c x z).zone.armingCount = (stepState c x (zoneJudged c x z)).1.armingCount ∧
    (zoneSteps c x z).zone.gapCount = (stepState c x (zoneJudged c x z)).1.gapCount ∧
    (zoneSteps c x z).zone.clearRun = (stepState c x (zoneJudged c x z)).1.clearRun :=
  ((ZoneRecord.standing_eq _).mp (zoneSteps_standing c x z)).2

theorem zoneSteps_latch : (zoneSteps c x z).zone.latch = (stepState c x (zoneJudged c x z)).1.latch := by
  unfold zoneSteps
  dsimp only
  split <;> rfl

/-- The reason given is that of the state transition, where it changed the state. -/
theorem zoneSteps_reason : (zoneSteps c x z).reason =
    if (stepState c x (zoneJudged c x z)).1.state = z.state then none else some (stepState c x (zoneJudged c x z)).2 := by
  unfold zoneSteps
  dsimp only
  rw [zoneJudged_state]

variable {x z} in
theorem stepState_empty (h : x.members = []) : stepState c x z = (z.outOf .inactive, .empty) := by simp [stepState, h]

variable {x z} in
theorem stepState_blocked (h : x.members ≠ []) (hb : z.latch = true ∨ x.absent ≠ []) :
    stepState c x z = (z.outOf .blocked, blockReason x z) := by
  have hb' : (z.latch || !x.absent.isEmpty) = true := by simpa using hb
  simp [stepState, h, hb']

variable {x z} in
theorem stepState_complete (h : x.members ≠ []) (hl : z.latch = false) (ha : x.absent = []) (hc : x.complete = true) :
    stepState c x z = completeRow c x z := by
  simp [stepState, h, hl, ha, hc]

variable {x z} in
theorem stepState_incomplete (h : x.members ≠ []) (hl : z.latch = false) (ha : x.absent = []) (hc : x.complete = false) :
    stepState c x z = incompleteRow z := by
  simp [stepState, h, hl, ha, hc]

/-- CZ does not trip (R123). -/
theorem stepState_check_not_tripped (hx : x.check = true) (hz : z.state ≠ .tripped) : (stepState c x z).1.state ≠ .tripped := by
  unfold stepState
  repeat' split
  · exact fun h => ZoneState.noConfusion h
  · exact fun h => ZoneState.noConfusion h
  · unfold completeRow
    rw [hx]
    split
    · exact fun h => ZoneState.noConfusion h
    · exact fun h => ZoneState.noConfusion h
    · split
      · exact fun h => ZoneState.noConfusion h
      · rename_i h _; simp [h]
    · rename_i h; simp [h]
    · contradiction
  · unfold incompleteRow
    repeat' split
    all_goals first | contradiction | simp_all [ZoneRecord.outOf]

end

/-! ## The invariant -/

/-- CZ has not tripped, the verdict is the set of TRIPPED busbar zones, and a merged B equals A. -/
structure ZoneEvaluator.Agrees (z : ZoneEvaluator) : Prop where
  check : z.cz.state ≠ .tripped
  verdict : z.verdict = verdictOf z.a z.b
  merged : z.merged = true → z.b = z.a

theorem State.zonesAgree_iff (s : State) : s.zones.Agrees ↔ s.zonesAgree :=
  ⟨fun ⟨hc, hv, hm⟩ => ⟨hc, hv, hm⟩, fun ⟨hc, hv, hm⟩ => ⟨hc, hv, hm⟩⟩

theorem ZoneRecord.recapture_state (z : ZoneRecord) :
    z.recapture.state = if z.state = .inactive then .inactive else .blocked := rfl

theorem ZoneRecord.recapture_not_tripped (z : ZoneRecord) : z.recapture.state ≠ .tripped := by
  rw [ZoneRecord.recapture_state]
  split <;> exact fun h => ZoneState.noConfusion h

theorem ZoneEvaluator.Agrees.recapture {z : ZoneEvaluator} (h : z.Agrees) : z.recapture.Agrees := by
  refine ⟨z.cz.recapture_not_tripped, ?_, fun hm => by simp [ZoneEvaluator.recapture, h.merged hm]⟩
  have ha := z.a.recapture_not_tripped
  have hb := z.b.recapture_not_tripped
  simp [ZoneEvaluator.recapture, verdictOf, BusSet.empty, ha, hb]

theorem State.zonesClose_agrees {s : State} (h : s.zones.Agrees) (c : Configuration) : (s.zonesClose c).zones.Agrees := by
  unfold State.zonesClose
  split
  · exact h
  · rename_i row _
    simp only [State.offerAll_frame]
    refine ⟨?_, rfl, fun hm => ?_⟩
    · simp only [zonesOutcome, zoneSteps_state]
      exact stepState_check_not_tripped c _ _ rfl (by simpa using h.check)
    · simp only [zonesOutcome]
      rw [if_pos hm]

theorem State.contribArrival_zones (s : State) (c : Configuration) (l : Lane) (f : Contrib) :
    (s.contribArrival c l f).zones = s.zones ∨ (s.contribArrival c l f).zones = s.zones.recapture := by
  unfold State.contribArrival
  repeat' split
  · exact .inl rfl
  · exact .inl (by simp)
  · exact .inl rfl
  · exact .inl (by simp)
  · exact .inl rfl
  · unfold State.outOfWindowArrival
    dsimp only
    split
    · exact .inr (by simp [State.recapture])
    · exact .inl rfl
  · exact .inl rfl

/-- A frame leaves the zones, or a recapture takes them (R114). -/
theorem State.frameChars_zones (s : State) (l : Lane) (lead : Byte) (n : Nat) (chars : List Byte) :
    (s.frameChars l lead n chars).zones = s.zones ∨ (s.frameChars l lead n chars).zones = s.zones.recapture := by
  have hforward (u : State) (bs : List Byte) : (u.forwardFrame l bs).zones = u.zones := by simp
  unfold State.frameChars State.frameEnds State.goodContrib State.handContrib
  repeat' split
  all_goals first
    | exact .inl rfl
    | exact .inl (by simp)
    | exact hforward (s.mapLane l LaneState.accept) _ ▸ State.contribArrival_zones _ _ _ _

/-- Every operation keeps the zones in agreement. -/
theorem kept_zonesAgree : Kept fun s => s.zones.Agrees where
  power _ _ h := h
  reset _ _ _ _ := ⟨fun h => ZoneState.noConfusion h, rfl, fun h => (Bool.false_ne_true h).elim⟩
  readEnd s b x h := by
    unfold State.configReadEnd
    repeat' split
    · exact ⟨by simpa [State.enterStabilise, State.loadImage, ZoneRecord.withCount] using h.check,
        by simpa [State.enterStabilise, State.loadImage, ZoneRecord.withCount, verdictOf] using h.verdict,
        fun hm => by simp [State.enterStabilise, State.loadImage,
          h.merged (by simpa [State.enterStabilise, State.loadImage] using hm)]⟩
    · simpa using h
    · exact h
  hold _ h := by simpa using h
  bareMark _ _ h := by simpa using h
  localMark _ _ h := by simpa using h
  roundMark _ _ h := by simpa using h
  rowClosed _ _ _ _ h := by simpa using h
  block s c b _ h := by
    cases b with
    | zones => exact State.zonesClose_agrees h c
    | health | membership | replica | trip | timer | controller => simpa [closeBlock] using h
  scan _ _ h := by simpa using h
  contrib s l bs h := by
    rcases s.frameChars_zones l leadContrib 24 bs with hz | hz <;> rw [hz]
    exacts [h, h.recapture]
  leaveFrame s l bs h := by
    rcases s.frameChars_zones l leadLeave 12 bs with hz | hz <;> rw [hz]
    exacts [h, h.recapture]
  unknownLead _ _ _ h := by simpa using h
  malformed _ _ h := by simpa using h
  backToHunt _ _ h := by simpa using h
  framing _ _ _ _ h := by simpa using h
  truncation _ _ _ h := by simpa using h
  clearSeen _ _ _ h := by simpa using h
  sent _ _ h := by simpa using h
  clearEnd _ _ h := by simpa using h
  gapEnd _ _ h := by simpa using h
  link _ _ h := h
  ack _ h := h
  release _ _ h := h
  leave _ _ h := by simpa using h
  read _ _ h := h

/-- Settles O58: the Zone Evaluator's close, a recapture and the load of an image are all that changes the zones, and each leaves them in
agreement. -/
theorem zonesStayConsistent : Obligations.ZonesStayConsistent := by
  intro s t hs hstep
  exact t.zonesAgree_iff.mp
    (kept_zonesAgree.step (fun _ _ h => h) (fun _ h => h) s t (s.zonesAgree_iff.mpr hs) hstep)

end Sys2Proof.Machine
end

section
/-! PROOFS. The own entry follows the station state, and the windows and the peak history hold at most W items (R89, R117, R137). -/

namespace Sys2Proof.Machine

/-! ## The own entry -/

section
variable {s t : State}

theorem State.ownNumber_configured {c : Configuration} (h : s.life.config = some c) : s.ownNumber = c.station := by
  simp [State.ownNumber, h]

theorem State.ownNumber_of_life (h : t.life = s.life) : t.ownNumber = s.ownNumber := by simp [State.ownNumber, h]

@[simp] theorem State.moveTo_ownNumber (s : State) (new : StationState) : (s.moveTo new).ownNumber = s.ownNumber := rfl

@[simp] theorem State.enter_ownNumber (s : State) (new : StationState) (gs : List (List Draft)) :
    (s.enter new gs).ownNumber = s.ownNumber := State.ownNumber_of_life (s := s.moveTo new) (by simp [State.enter])

theorem State.ownEntryFollows.of_eq (h : s.ownEntryFollows) (hm : t.membership = s.membership)
    (hl : t.life.state = s.life.state) (hn : t.ownNumber = s.ownNumber) : t.ownEntryFollows := by
  unfold State.ownEntryFollows at *
  rwa [hm, hl, hn]

theorem State.ownEntryFollows.of_life (h : s.ownEntryFollows) (hm : t.membership = s.membership) (hl : t.life = s.life) :
    t.ownEntryFollows := State.ownEntryFollows.of_eq h hm (by rw [hl]) (State.ownNumber_of_life hl)

/-- A change of the station state takes the own entry with it (R89). -/
theorem State.enter_own (s : State) (new : StationState) (gs : List (List Draft)) : (s.enter new gs).ownEntryFollows := by
  intro e he hn
  rw [State.enter_membership, State.moveTo_entries, List.mem_map] at he
  obtain ⟨e', -, rfl⟩ := he
  rw [State.enter_ownNumber] at hn
  rw [State.enter_state]
  split
  · rfl
  · rename_i hne
    rw [if_neg hne] at hn
    simp [hn] at hne

theorem State.transition_own (s : State) (new : StationState) (r : StationReason) (more : List Byte) :
    (s.transition new r more).ownEntryFollows := s.enter_own new _

/-- An entry changed without its number, and either not the own one or without its state, leaves the own entry following. -/
theorem State.ownEntryFollows.mapEntry (h : s.ownEntryFollows) (n : Nat) {g : Entry → Entry}
    (hg : ∀ e, (g e).station = e.station) (hs : n ≠ s.ownNumber ∨ ∀ e, (g e).state = e.state) :
    (s.mapEntry n g).ownEntryFollows := by
  intro e he hn
  rw [State.mapEntry_entries, List.mem_map] at he
  obtain ⟨e', he', rfl⟩ := he
  have hown : (s.mapEntry n g).ownNumber = s.ownNumber := rfl
  have hstate : (s.mapEntry n g).life.state = s.life.state := rfl
  rw [hown] at hn
  rw [hstate]
  split
  · rename_i hst
    rw [if_pos hst, hg] at hn
    rcases hs with hs | hs
    · exact (hs ((beq_iff_eq.mp hst).symm.trans hn)).elim
    · rw [hs]; exact h e' he' hn
  · rename_i hst
    rw [if_neg hst] at hn
    exact h e' he' hn

theorem State.ownEntryFollows.changeEntry (h : s.ownEntryFollows) {e : Entry} {g : Entry → Entry}
    (hg : ∀ e, (g e).station = e.station) (hs : e.station ≠ s.ownNumber) : (s.changeEntry e g).ownEntryFollows :=
  State.ownEntryFollows.of_life (State.ownEntryFollows.mapEntry h e.station hg (.inl hs)) (by simp [State.changeEntry])
    (by simp)

theorem State.entry_station {n : Nat} {e : Entry} (h : s.entry n = some e) : e.station = n := by
  simpa using List.find?_some h

theorem Entry.refuse_station (e : Entry) : e.refuse.station = e.station := by unfold Entry.refuse; split <;> rfl

/-! ## Arrivals -/

theorem State.contribArrival_own (h : s.ownEntryFollows) (c : Configuration) (l : Lane) (f : Contrib)
    (ho : f.origin ≠ s.ownNumber) : (s.contribArrival c l f).ownEntryFollows := by
  have hkeep {u : State} (hu : u.ownEntryFollows) {g : Entry → Entry} (hg : ∀ e, (g e).station = e.station)
      (hst : ∀ e, (g e).state = e.state) : (u.mapEntry f.origin g).ownEntryFollows :=
    State.ownEntryFollows.mapEntry hu f.origin hg (.inr hst)
  have hopen (g : Row → Row) : (s.mapOpen g).ownEntryFollows := h
  unfold State.contribArrival
  split
  · exact h
  · rename_i e he
    split
    · have hchange : (s.changeEntry e Entry.refuse).ownEntryFollows :=
        State.ownEntryFollows.changeEntry h Entry.refuse_station (State.entry_station he ▸ ho)
      unfold State.refuseArrival
      dsimp only
      split
      · exact hchange
      · exact hchange
    · repeat' split
      · exact hkeep h (fun _ => rfl) fun _ => rfl
      · unfold State.slotArrival
        repeat' split
        · exact hkeep (hopen _) (fun _ => rfl) fun _ => rfl
        · exact h
        · have hdispute := hkeep (hopen fun r => r.setBody f.origin .disputed)
            (g := fun e => { e with disagree := bump8 e.disagree }) (fun _ => rfl) fun _ => rfl
          exact State.ownEntryFollows.of_life hdispute rfl rfl
        · exact h
      · exact hkeep h (fun _ => rfl) fun _ => rfl
      · have hmark := hkeep (hopen fun r => r.setMark f.origin)
          (g := fun e => { e with outOfWindow := bump8 e.outOfWindow, latestLowest := some f.content.lowest })
          (fun _ => rfl) fun _ => rfl
        unfold State.outOfWindowArrival
        dsimp only
        split
        · intro e he hn
          rw [State.recapture, State.offerGroups_frame _ _ |>.2.2.2.2.2.2.2.1] at he
          simp only [Membership.clearRuns, List.mem_map] at he
          obtain ⟨e', he', rfl⟩ := he
          have hlife : ∀ (u : State) (n : Nat) (r : Round) (a : Nat), (u.recapture c n r a).life = u.life := by simp
          rw [State.ownNumber_of_life (hlife _ _ _ _)] at hn
          rw [hlife]
          exact hmark e' he' hn
        · exact hmark
      · exact h

theorem State.handContrib_own (h : s.ownEntryFollows) (l : Lane) (f : Contrib) (ho : f.origin ≠ s.ownNumber) :
    (s.handContrib l f).ownEntryFollows := by
  unfold State.handContrib
  repeat' split
  all_goals first
    | exact State.contribArrival_own h _ _ _ ho
    | exact State.ownEntryFollows.of_life h (by simp) (by simp)

theorem State.handLeave_own (h : s.ownEntryFollows) (f : LeaveFrame) (ho : f.origin ≠ s.ownNumber) :
    (s.handLeave f).ownEntryFollows := by
  have harrival : (s.leaveArrival f).ownEntryFollows := by
    unfold State.leaveArrival
    split
    · rename_i e he
      repeat' split
      · exact h
      · exact h
      · exact State.ownEntryFollows.changeEntry h (fun _ => rfl) (State.entry_station he ▸ ho)
    · exact h
  unfold State.handLeave
  split
  all_goals first | exact harrival | exact h

theorem State.frameEnds_own (h : s.ownEntryFollows) (l : Lane) (bs : List Byte) : (s.frameEnds l bs).ownEntryFollows := by
  have hforward (u : State) : (u.forwardFrame l bs).ownNumber = u.ownNumber := State.ownNumber_of_life (by simp)
  have hf {u : State} (hu : u.ownEntryFollows) : (u.forwardFrame l bs).ownEntryFollows :=
    State.ownEntryFollows.of_life hu (by simp) (by simp)
  unfold State.frameEnds State.goodContrib State.goodLeave
  repeat' split
  · exact State.ownEntryFollows.of_life h (by simp) (by simp)
  · exact h
  · exact h
  · rename_i hne
    exact State.handContrib_own (hf (u := s.mapLane l LaneState.accept) h) l _ (by rw [hforward]; exact hne)
  · exact State.ownEntryFollows.of_life h (by simp) (by simp)
  · exact h
  · rename_i hne
    exact State.handLeave_own (hf (u := s.mapLane l LaneState.accept) h) _ (by rw [hforward]; exact hne)
  · exact h

theorem State.frameChars_own (h : s.ownEntryFollows) (l : Lane) (lead : Byte) (n : Nat) (chars : List Byte) :
    (s.frameChars l lead n chars).ownEntryFollows := by
  unfold State.frameChars
  repeat' split
  · exact State.frameEnds_own h l _
  all_goals exact h

/-! ## Marks, closes, scans and the life cycle -/

theorem State.localMark_own (h : s.ownEntryFollows) (x : BayLines) : (s.localMark x).ownEntryFollows := by
  unfold State.localMark
  split
  · dsimp only
    split
    · exact State.enter_own _ _ _
    · split
      · exact State.enter_own _ _ _
      · exact State.ownEntryFollows.of_eq h (by simp [State.passTo]) (by simp [State.localMarkBlocks, State.passTo])
          (by simp [State.ownNumber, State.localMarkBlocks, State.passTo])
  · exact h

theorem State.roundMark_own (h : s.ownEntryFollows) (x : BayLines) : (s.roundMark x).ownEntryFollows := by
  unfold State.roundMark
  split
  · split
    · exact h
    · dsimp only
      split
      · exact State.transition_own _ _ _ _
      · exact State.ownEntryFollows.of_life h (by simp [State.passTo]) (by simp [State.passTo])
  · exact h

theorem Entry.close_station (c : Configuration) (st : StationState) (row : Row) (e : Entry) :
    (e.close c st row).station = e.station := by
  have hpeer (heard : Bool) : (e.peerStep c heard).station = e.station := by
    unfold Entry.peerStep Entry.rejoin
    repeat' split
    all_goals rfl
  unfold Entry.close
  split
  · rfl
  · exact hpeer _

theorem State.membershipClose_own (h : s.ownEntryFollows) {c : Configuration} (hc : s.life.config = some c) :
    (s.membershipClose c).ownEntryFollows := by
  unfold State.membershipClose
  split
  · exact h
  · rename_i row _
    refine State.ownEntryFollows.of_life (s := { s with membership := { s.membership with
      entries := s.membership.entries.map (Entry.close c s.life.state row) } }) (fun e he hn => ?_) (by simp) (by simp)
    obtain ⟨e', -, rfl⟩ := List.mem_map.mp he
    have hown : e'.station = c.station := by
      rw [Entry.close_station] at hn
      exact hn.trans (State.ownNumber_configured hc)
    simp [Entry.close, hown, Entry.settleRow, Entry.ownStep]

theorem closeBlock_own (h : s.ownEntryFollows) {c : Configuration} (hc : s.life.config = some c) (b : CloseBlock) :
    (closeBlock c s b).ownEntryFollows := by
  cases b with
  | membership => exact State.membershipClose_own h hc
  | controller =>
    obtain ⟨x, hx, hcx, ht | ⟨-, r, ht⟩ | ⟨-, ht⟩⟩ := s.controllerClose_cases c
    · have hown : (closeBlock c s .controller).ownNumber = s.ownNumber := by
        rw [State.ownNumber_configured hc, State.ownNumber_configured (closeBlock_config c s .controller ▸ hc)]
      exact State.ownEntryFollows.of_eq h (by simp [closeBlock, ht]) (by simp [closeBlock, ht, hx]) hown
    · simp only [closeBlock, ht]; exact State.transition_own _ _ _ _
    · simp only [closeBlock, ht]; exact State.transition_own _ _ _ _
  | health | replica | zones | trip | timer =>
    exact State.ownEntryFollows.of_life h (by simp [closeBlock]) (by simp [closeBlock])

theorem State.report_own (h : s.ownEntryFollows) (sent : Bool) : (s.report sent).ownEntryFollows := by
  unfold State.report
  split
  · dsimp only
    split
    · exact State.transition_own _ _ _ _
    · exact h
  · exact h

theorem State.enqueueLeave_own (h : s.ownEntryFollows) (l : Lane) (f : QueuedFrame) :
    (s.enqueueLeave l f).ownEntryFollows := by
  unfold State.enqueueLeave
  split
  · exact State.ownEntryFollows.of_life h (by simp) (by simp)
  · exact State.report_own (s := s.dropFrame l) h false

theorem State.scanComplete_own (h : s.ownEntryFollows) (n : ScanCounts) : (s.scanComplete n).ownEntryFollows := by
  have hu : (s.scanUnit n).ownEntryFollows := State.ownEntryFollows.of_life h (by simp) (by simp)
  have hbuild (u : State) (hu : u.ownEntryFollows) (c : Configuration) (k : Round) (i : Tri Int) (q : Quality) (p : Positions) :
      (u.ownBuild c k i q p).ownEntryFollows := by
    unfold State.ownBuild
    dsimp only
    split
    · have hkept := State.ownEntryFollows.mapEntry hu c.station
        (g := fun e => { e with lastKnown := some (u.ownContent i q p).status }) (fun _ => rfl) (.inr fun _ => rfl)
      exact State.ownEntryFollows.of_eq hkept (by simp [State.sendOwn]; rfl) (by simp [State.sendOwn])
        (by simp [State.ownNumber, State.sendOwn])
    · exact hu
  unfold State.scanComplete
  split
  · exact h
  · dsimp only
    split
    · unfold State.handOn
      repeat' split
      · exact hbuild _ hu _ _ _ _ _
      all_goals exact hu
    · exact hu

end

/-- Every operation keeps the own entry to the station state. -/
theorem kept_ownEntryFollows : Kept State.ownEntryFollows where
  power _ _ h := h
  reset _ _ _ _ := fun e he _ => by simp [State.resetBy, Membership.initial] at he
  readEnd s b x h := by
    unfold State.configReadEnd
    repeat' split
    · exact State.ownEntryFollows.of_life (State.transition_own (s.loadImage (configOf b) (sharedChecksum b)) .stabilise .imageGood [])
        (by simp [State.enterStabilise]) (by simp [State.enterStabilise])
    · unfold State.enterConfigFault
      dsimp only
      exact State.ownEntryFollows.of_life (State.enter_own _ _ _) (by simp; rfl) (by simp; rfl)
    · exact h
  hold s h := by
    unfold State.enterHold
    dsimp only
    split
    · exact State.enqueueLeave_own (State.enqueueLeave_own (State.enter_own _ _ _) _ _) _ _
    · exact State.enter_own _ _ _
  bareMark _ _ h := State.ownEntryFollows.of_life h (by simp) (by simp)
  localMark _ x h := State.localMark_own h x
  roundMark _ x h := State.roundMark_own h x
  rowClosed _ _ _ _ h := State.ownEntryFollows.of_life h (by simp) (by simp)
  block _ _ b hc h := closeBlock_own h hc b
  scan _ n h := State.scanComplete_own h n
  contrib _ l bs h := State.frameChars_own h l leadContrib 24 bs
  leaveFrame _ l bs h := State.frameChars_own h l leadLeave 12 bs
  unknownLead _ _ _ h := State.ownEntryFollows.of_life h (by simp) (by simp)
  malformed _ _ h := State.ownEntryFollows.of_life h (by simp) (by simp)
  backToHunt _ _ h := State.ownEntryFollows.of_life h (by simp) (by simp)
  framing _ _ _ _ h := State.ownEntryFollows.of_life h (by simp) (by simp)
  truncation _ _ _ h := State.ownEntryFollows.of_life h (by simp) (by simp)
  clearSeen _ _ _ h := State.ownEntryFollows.of_life h (by simp) (by simp)
  sent s l h := by
    have hlane (g : LaneState → LaneState) : (s.mapLane l g).ownEntryFollows := h
    unfold State.transmissionComplete
    split
    · dsimp only
      split
      · exact State.report_own (hlane _) true
      · exact hlane _
    · exact h
  clearEnd _ _ h := State.ownEntryFollows.of_life h (by simp) (by simp)
  gapEnd _ _ h := State.ownEntryFollows.of_life h (by simp) (by simp)
  link _ _ h := h
  ack _ h := h
  release _ _ h := h
  leave _ _ h := by
    unfold State.acceptLeave
    dsimp only
    exact State.enqueueLeave_own (State.enqueueLeave_own (State.transition_own _ _ _ _) _ _) _ _
  read _ _ h := h

end Sys2Proof.Machine
end

section
/-! PROOFS. The windows and the peak history hold at most W items (R117, R137); with what the steps of one zone leave of a phase's
window, mark and previous restraint (R117 to R120). -/

namespace Sys2Proof.Machine

/-! ## What a phase carries from row to row -/

/-- What a phase carries to the next evaluated row: its window, its mark and whether its restraint was high (R117, R118). -/
def PhaseRecord.memory (p : PhaseRecord) : List Bool × Nat × Bool := (p.window, p.markHold, p.previousHigh)

section
variable (c : Configuration) (x : ZoneInputs) (z : ZoneRecord) (p : PhaseRecord) (ph : Phase)

theorem PhaseRecord.memory_eq {q : PhaseRecord} : q.memory = p.memory ↔
    q.window = p.window ∧ q.markHold = p.markHold ∧ q.previousHigh = p.previousHigh := by
  simp [PhaseRecord.memory]

@[simp] theorem phaseRun_memory : (phaseRun c p).memory = p.memory := by unfold phaseRun; split <;> rfl

@[simp] theorem phaseQuantities_memory : (phaseQuantities c x ph p).memory = p.memory := by
  unfold phaseQuantities; split <;> rfl

@[simp] theorem ZoneRecord.zeroRuns_memory : (z.zeroRuns.phases.get ph).memory = (z.phases.get ph).memory := by
  simp [ZoneRecord.zeroRuns, PhaseRecord.memory]

@[simp] theorem stepLatch_memory : ((stepLatch c x z).phases.get ph).memory = (z.phases.get ph).memory := by
  unfold stepLatch
  split
  · rfl
  · exact z.zeroRuns_memory ph

@[simp] theorem stepRelease_memory : ((stepRelease c x z).phases.get ph).memory = (z.phases.get ph).memory := by
  unfold stepRelease
  split
  · exact z.zeroRuns_memory ph
  · rfl

@[simp] theorem stepRuns_memory : ((stepRuns c x z).phases.get ph).memory = (z.phases.get ph).memory := by
  unfold stepRuns
  split
  · simp
  · rfl

/-- Steps 3 to 5 leave a phase's memory as the change of members of step 2 left it. -/
@[simp] theorem zoneSupervised_memory :
    ((zoneSupervised c x z).phases.get ph).memory = ((stepMembers x z).phases.get ph).memory := by
  simp [zoneSupervised, zoneMeasured, stepQuantities_get]

/-- Step 6 of a zone judges each phase as steps 2 to 5 left it. -/
theorem zoneJudged_get : (zoneJudged c x z).phases.get ph =
    phaseJudge c (x.evaluated (stepLatch c x (zoneSupervised c x z))) x.stuck
      ((stepLatch c x (zoneSupervised c x z)).phases.get ph) := by
  simp [zoneJudged, stepJudge]

theorem stepMembers_get : (stepMembers x z).phases.get ph =
    if x.members = x.previous then z.phases.get ph else (z.phases.get ph).clearWindow := by
  unfold stepMembers
  split <;> simp [ZoneRecord.clearWindows]

/-! ## Windows within W -/

theorem length_lastN_le {α : Type} (n : Nat) (l : List α) : (lastN n l).length ≤ n := by
  simp only [lastN, List.length_drop]
  omega

theorem ZoneRecord.windowsWithin_iff (n : Nat) : z.windowsWithin n ↔ ∀ ph, (z.phases.get ph).window.length ≤ n :=
  ⟨fun ⟨ha, hb, hc⟩ ph => by cases ph with | a => exact ha | b => exact hb | c => exact hc,
    fun h => ⟨h .a, h .b, h .c⟩⟩

theorem ZoneRecord.clearWindows_within (n : Nat) : z.clearWindows.windowsWithin n :=
  ⟨Nat.zero_le n, Nat.zero_le n, Nat.zero_le n⟩

theorem ZoneRecord.withCount_within (m n : Nat) : (z.withCount m).windowsWithin n ↔ z.windowsWithin n := Iff.rfl

theorem phaseJudge_window (e stuck : Bool) : (phaseJudge c e stuck p).window =
    if e then lastN c.w (p.window ++ [p.condition.getD false]) else p.window := by
  cases e <;> rfl

theorem phaseJudge_window_within (e stuck : Bool) (h : p.window.length ≤ c.w) :
    (phaseJudge c e stuck p).window.length ≤ c.w := by
  rw [phaseJudge_window]
  split
  · exact length_lastN_le _ _
  · exact h

variable {z} in
theorem zoneJudged_within (h : z.windowsWithin c.w) : (zoneJudged c x z).windowsWithin c.w := by
  rw [ZoneRecord.windowsWithin_iff] at h ⊢
  intro ph
  rw [zoneJudged_get]
  refine phaseJudge_window_within c _ _ _ ?_
  have hmemory := (PhaseRecord.memory_eq _).mp
    ((stepLatch_memory c x (zoneSupervised c x z) ph).trans (zoneSupervised_memory c x z ph))
  rw [hmemory.1, stepMembers_get]
  split
  · exact h ph
  · exact Nat.zero_le _

variable {z} in
/-- A zone's steps keep its windows within W (R117, R119). -/
theorem zoneSteps_within (h : z.windowsWithin c.w) : (zoneSteps c x z).zone.windowsWithin c.w := by
  unfold zoneSteps
  dsimp only
  split
  · exact ZoneRecord.clearWindows_within _ _
  · unfold ZoneRecord.windowsWithin
    rw [stepState_phases]
    exact zoneJudged_within c x h

end

/-- All three zones keep their windows within n. -/
structure ZoneEvaluator.Within (n : Nat) (z : ZoneEvaluator) : Prop where
  a : z.a.windowsWithin n
  b : z.b.windowsWithin n
  cz : z.cz.windowsWithin n

theorem ZoneEvaluator.initial_within (n : Nat) : ZoneEvaluator.initial.Within n :=
  have hempty : ZoneRecord.initial.windowsWithin n := ⟨Nat.zero_le n, Nat.zero_le n, Nat.zero_le n⟩
  ⟨hempty, hempty, hempty⟩

theorem ZoneEvaluator.Within.recapture {n : Nat} (z : ZoneEvaluator) : z.recapture.Within n :=
  ⟨ZoneRecord.clearWindows_within _ n, ZoneRecord.clearWindows_within _ n, ZoneRecord.clearWindows_within _ n⟩

theorem State.zonesClose_within {s : State} {c : Configuration} (h : s.zones.Within c.w) : (s.zonesClose c).zones.Within c.w := by
  have hcombine : (stepCombine s).1.windowsWithin c.w ∧ (stepCombine s).2.1.windowsWithin c.w := by
    unfold stepCombine
    split
    · exact ⟨ZoneRecord.clearWindows_within _ _, ZoneRecord.clearWindows_within _ _⟩
    · exact ⟨ZoneRecord.clearWindows_within _ _, ZoneRecord.clearWindows_within _ _⟩
    · exact ⟨h.a, h.b⟩
  unfold State.zonesClose
  split
  · exact h
  · simp only [State.offerAll_frame, zonesOutcome]
    refine ⟨zoneSteps_within c _ hcombine.1, ?_, zoneSteps_within c _ h.cz⟩
    split
    · exact zoneSteps_within c _ hcombine.1
    · exact zoneSteps_within c _ hcombine.2

/-! ## The invariant -/

/-- In START there is no configuration, so that W changes only while every window is empty; and the windows are within W. -/
structure State.Windowed (s : State) : Prop where
  bare : s.life.state = .start → s.life.config = none
  zones : s.zones.Within s.depth
  peaks : s.trip.peakHistory.length ≤ s.depth

section
variable {s t u : State}

/-- A change that keeps the configuration, the zones and the peak history, and does not go back to START. -/
structure State.HoldsWindows (s t : State) : Prop where
  config : t.life.config = s.life.config
  state : t.life.state = s.life.state ∨ t.life.state ≠ .start
  zones : t.zones = s.zones
  peaks : t.trip.peakHistory = s.trip.peakHistory

theorem State.HoldsWindows.of_eq (hl : t.life = s.life) (hz : t.zones = s.zones) (ht : t.trip = s.trip) : s.HoldsWindows t :=
  ⟨by rw [hl], .inl (by rw [hl]), hz, by rw [ht]⟩

theorem State.HoldsWindows.refl (s : State) : s.HoldsWindows s := .of_eq rfl rfl rfl

theorem State.HoldsWindows.trans (h : s.HoldsWindows t) (h' : t.HoldsWindows u) : s.HoldsWindows u where
  config := h'.config.trans h.config
  state := h'.state.elim (fun e => e ▸ h.state) .inr
  zones := h'.zones.trans h.zones
  peaks := h'.peaks.trans h.peaks

theorem State.Windowed.of_holds (h : s.Windowed) (hk : s.HoldsWindows t) : t.Windowed := by
  have hdepth : t.depth = s.depth := by simp [State.depth, hk.config]
  refine ⟨fun hs => ?_, by rw [hk.zones, hdepth]; exact h.zones, by rw [hk.peaks, hdepth]; exact h.peaks⟩
  rcases hk.state with he | he
  · exact hk.config.trans (h.bare (he ▸ hs))
  · exact (he hs).elim

@[simp] theorem tripExit_peakHistory (old new : StationState) (t : TripUnit) :
    (tripExit old new t).peakHistory = t.peakHistory := (tripExit_frame old new t).2.1

theorem State.enter_holdsWindows (s : State) {new : StationState} (gs : List (List Draft)) (hn : new ≠ .start) :
    s.HoldsWindows (s.enter new gs) :=
  ⟨by simp, .inr (by simpa using hn), by simp, by simp⟩

theorem State.report_holdsWindows (s : State) (sent : Bool) : s.HoldsWindows (s.report sent) := by
  rcases s.report_cases sent with ⟨hstate, htrip, -⟩ | ⟨hold, hstate, htrip, -⟩
  · exact ⟨by simp, .inl hstate, by simp, by rw [htrip]⟩
  · exact ⟨by simp, .inr (by simp [hstate]), by simp, by simp [htrip]⟩

theorem State.enqueueLeave_holdsWindows (s : State) (l : Lane) (f : QueuedFrame) : s.HoldsWindows (s.enqueueLeave l f) := by
  unfold State.enqueueLeave
  split
  · exact .of_eq (by simp) (by simp) (by simp)
  · have hdrop : s.HoldsWindows (s.dropFrame l) := .of_eq rfl rfl rfl
    exact hdrop.trans ((s.dropFrame l).report_holdsWindows false)

theorem State.controllerClose_holdsWindows (s : State) (c : Configuration) : s.HoldsWindows (s.controllerClose c) := by
  obtain ⟨x, hx, hc, ht | ⟨-, r, ht⟩ | ⟨-, ht⟩⟩ := s.controllerClose_cases c <;> rw [ht]
  · exact ⟨hc, .inl hx, rfl, rfl⟩
  · exact ⟨by simp [hc], .inr (by simp), by simp, by simp [State.exclude]⟩
  · exact ⟨by simp [hc], .inr (by simp), by simp, by simp [State.promote]⟩

theorem State.formCauses_peakHistory (s : State) (c : Configuration) :
    (s.formCauses c).trip.peakHistory = s.trip.peakHistory := by
  unfold State.formCauses
  dsimp only
  split <;> rfl

theorem State.decideOutput_peakHistory (s : State) (c : Configuration) :
    (s.decideOutput c).trip.peakHistory = s.trip.peakHistory := by
  unfold State.decideOutput State.holdOutput
  dsimp only
  repeat' split
  all_goals rfl

theorem State.stepBf_peakHistory (s : State) (c : Configuration) : (s.stepBf c).trip.peakHistory = s.trip.peakHistory := by
  unfold State.stepBf State.bfIdle State.bfRunning State.bfExpiredStep
  repeat' split
  all_goals rfl

theorem State.tripClose_holdsWindows (s : State) (c : Configuration) : s.HoldsWindows (s.tripClose c) := by
  refine ⟨by simp, .inl (by simp), by simp, ?_⟩
  rw [State.tripClose, State.stepBf_peakHistory, State.decideOutput_peakHistory, State.formCauses_peakHistory]
  rfl

theorem State.localMark_holdsWindows (s : State) (x : BayLines) : s.HoldsWindows (s.localMark x) := by
  unfold State.localMark
  split
  · dsimp only
    split
    · exact ⟨by simp [State.settle, State.localMarkBlocks, State.passTo], .inr (by simp [State.settle]),
        by simp [State.settle, State.localMarkBlocks, State.passTo],
        by simp [State.settle, State.localMarkBlocks, State.passTo]⟩
    · split
      · exact ⟨by simp [State.startNumbering, State.passTo], .inr (by simp [State.startNumbering]),
          by simp [State.startNumbering, State.passTo], by simp [State.startNumbering, State.passTo]⟩
      · exact ⟨by simp [State.localMarkBlocks, State.passTo], .inl (by simp [State.localMarkBlocks, State.passTo]),
          by simp [State.localMarkBlocks, State.passTo], by simp [State.localMarkBlocks, State.passTo]⟩
  · exact .refl s

theorem State.roundMark_holdsWindows (s : State) (x : BayLines) : s.HoldsWindows (s.roundMark x) := by
  unfold State.roundMark
  split
  · split
    · exact .refl s
    · dsimp only
      split
      · exact ⟨by simp [State.passTo], .inr (by simp), by simp [State.passTo], by simp [State.passTo]⟩
      · exact .of_eq (by simp [State.passTo]) (by simp [State.passTo]) (by simp [State.passTo])
  · exact .refl s

theorem State.enterHold_holdsWindows (s : State) : s.HoldsWindows s.enterHold := by
  have hheld : s.HoldsWindows (s.abandonStart.stopForHold.enter .hold [[holdDraft s]]) :=
    ⟨by simp, .inr (by simp), by simp, by simp⟩
  unfold State.enterHold
  dsimp only
  split
  · exact (hheld.trans (State.enqueueLeave_holdsWindows _ _ _)).trans (State.enqueueLeave_holdsWindows _ _ _)
  · exact hheld

theorem State.acceptLeave_holdsWindows (s : State) : s.HoldsWindows s.acceptLeave := by
  unfold State.acceptLeave
  dsimp only
  refine .trans (.trans ?_ (State.enqueueLeave_holdsWindows _ _ _)) (State.enqueueLeave_holdsWindows _ _ _)
  exact ⟨by simp, .inr (by simp), by simp, by simp⟩

theorem State.transmissionComplete_holdsWindows (s : State) (l : Lane) : s.HoldsWindows (s.transmissionComplete l) := by
  have hlane (g : LaneState → LaneState) : s.HoldsWindows (s.mapLane l g) := .of_eq rfl rfl rfl
  unfold State.transmissionComplete
  split
  · dsimp only
    split
    · exact (hlane _).trans (State.report_holdsWindows _ true)
    · exact hlane _
  · exact .refl s

/-! ## What changes the windows -/

theorem ZoneEvaluator.Within.mono {m n : Nat} {z : ZoneEvaluator} (h : z.Within m) (hmn : m ≤ n) : z.Within n where
  a := ⟨h.a.1.trans hmn, h.a.2.1.trans hmn, h.a.2.2.trans hmn⟩
  b := ⟨h.b.1.trans hmn, h.b.2.1.trans hmn, h.b.2.2.trans hmn⟩
  cz := ⟨h.cz.1.trans hmn, h.cz.2.1.trans hmn, h.cz.2.2.trans hmn⟩

/-- The load of an image finds every window empty: there was no configuration before it (R156). -/
theorem State.Windowed.configReadEnd (h : s.Windowed) (b : List Byte) (x : BayLines) : (s.configReadEnd b x).Windowed := by
  unfold State.configReadEnd
  split
  · rename_i hstart
    have hempty : s.depth = 0 := by simp [State.depth, h.bare hstart.1]
    have hzones := h.zones
    have hpeaks := h.peaks
    rw [hempty] at hzones hpeaks
    split
    · refine ⟨fun hs => by simp [State.enterStabilise] at hs, ?_, ?_⟩
      · obtain ⟨ha, hb, hcz⟩ := hzones.mono (Nat.zero_le (configOf b).w)
        simp only [State.depth, State.enterStabilise]
        exact ⟨by simpa [State.loadImage] using (ZoneRecord.withCount_within _ _ _).mpr ha,
          by simpa [State.loadImage] using (ZoneRecord.withCount_within _ _ _).mpr hb,
          by simpa [State.loadImage] using (ZoneRecord.withCount_within _ _ _).mpr hcz⟩
      · have hnone : s.trip.peakHistory = [] := List.length_eq_zero_iff.mp (Nat.le_zero.mp hpeaks)
        simp [State.enterStabilise, State.loadImage, hnone]
    · refine h.of_holds ⟨?_, .inr ?_, ?_, ?_⟩ <;> simp [State.enterConfigFault]
  · exact h

theorem State.Windowed.scanComplete (h : s.Windowed) (n : ScanCounts) : (s.scanComplete n).Windowed := by
  have hdepth : (s.scanComplete n).depth = s.depth := by simp [State.depth]
  refine ⟨fun hs => ?_, by rw [hdepth]; simpa using h.zones, ?_⟩
  · rw [State.scanComplete_config]
    exact h.bare (by rwa [State.scanComplete_state] at hs)
  · rw [hdepth]
    rcases s.scanComplete_trip n with ht | ⟨c, e, hc, ht⟩ <;> rw [ht]
    · exact h.peaks
    · rw [show s.depth = c.w by simp [State.depth, hc]]
      exact length_lastN_le _ _

theorem State.Windowed.frameChars (h : s.Windowed) (l : Lane) (lead : Byte) (n : Nat) (chars : List Byte) :
    (s.frameChars l lead n chars).Windowed := by
  have hdepth : (s.frameChars l lead n chars).depth = s.depth := by simp [State.depth]
  refine ⟨fun hs => ?_, ?_, by rw [hdepth]; simpa using h.peaks⟩
  · have hlife : (s.frameChars l lead n chars).life = s.life := by simp
    rw [hlife] at hs ⊢
    exact h.bare hs
  · rw [hdepth]
    rcases s.frameChars_zones l lead n chars with hz | hz <;> rw [hz]
    · exact h.zones
    · exact .recapture s.zones

theorem State.Windowed.closeBlock (h : s.Windowed) {c : Configuration} (hc : s.life.config = some c) (b : CloseBlock) :
    (Machine.closeBlock c s b).Windowed := by
  have hdepth : s.depth = c.w := by simp [State.depth, hc]
  cases b with
  | zones =>
    have hz : (s.zonesClose c).depth = c.w := by simp [State.depth, hc]
    exact ⟨fun hs => by simp [Machine.closeBlock] at hs ⊢; exact h.bare hs,
      by simp only [Machine.closeBlock]; rw [hz]; exact State.zonesClose_within (hdepth ▸ h.zones),
      by simp only [Machine.closeBlock]; rw [hz]; simpa [hdepth] using h.peaks⟩
  | trip => exact h.of_holds (s.tripClose_holdsWindows c)
  | controller => exact h.of_holds (s.controllerClose_holdsWindows c)
  | health | membership | replica | timer =>
    exact h.of_holds (.of_eq (by simp [Machine.closeBlock]) (by simp [Machine.closeBlock]) (by simp [Machine.closeBlock]))

end

/-- Every operation keeps the windows within W. -/
theorem kept_windowed : Kept State.Windowed where
  power _ _ h := h.of_holds (.of_eq rfl rfl rfl)
  reset _ _ _ _ := ⟨fun _ => rfl, ZoneEvaluator.initial_within _, Nat.zero_le _⟩
  readEnd _ b x h := h.configReadEnd b x
  hold s h := h.of_holds s.enterHold_holdsWindows
  bareMark _ _ h := h.of_holds (.of_eq (by simp) (by simp) (by simp))
  localMark s x h := h.of_holds (s.localMark_holdsWindows x)
  roundMark s x h := h.of_holds (s.roundMark_holdsWindows x)
  rowClosed _ _ _ _ h := h.of_holds (.of_eq (by simp) (by simp) (by simp))
  block _ _ b hc h := h.closeBlock hc b
  scan _ n h := h.scanComplete n
  contrib _ l bs h := h.frameChars l leadContrib 24 bs
  leaveFrame _ l bs h := h.frameChars l leadLeave 12 bs
  unknownLead _ _ _ h := h.of_holds (.of_eq (by simp) (by simp) (by simp))
  malformed _ _ h := h.of_holds (.of_eq (by simp) (by simp) (by simp))
  backToHunt _ _ h := h.of_holds (.of_eq (by simp) (by simp) (by simp))
  framing _ _ _ _ h := h.of_holds (.of_eq (by simp) (by simp) (by simp))
  truncation _ _ _ h := h.of_holds (.of_eq (by simp) (by simp) (by simp))
  clearSeen _ _ _ h := h.of_holds (.of_eq (by simp) (by simp) (by simp))
  sent s l h := h.of_holds (s.transmissionComplete_holdsWindows l)
  clearEnd _ _ h := h.of_holds (.of_eq (by simp) (by simp) (by simp))
  gapEnd _ _ h := h.of_holds (.of_eq (by simp) (by simp) (by simp))
  link _ _ h := h.of_holds (.of_eq rfl rfl rfl)
  ack _ h := h.of_holds ⟨rfl, .inl rfl, rfl, rfl⟩
  release _ _ h := h.of_holds ⟨rfl, .inl rfl, rfl, rfl⟩
  leave s _ h := h.of_holds s.acceptLeave_holdsWindows
  read _ _ h := h.of_holds (.of_eq rfl rfl rfl)

theorem State.windowed_of (s : State) (hm : s.modeFollows) (hw : s.windowsBounded) : s.Windowed := by
  obtain ⟨ha, hb, hcz, hp⟩ := hw
  refine ⟨fun hs => ?_, ⟨ha, hb, hcz⟩, hp⟩
  have hconfig := hm.2
  rw [hs] at hconfig
  simpa [StationState.admitsConfig] using hconfig

/-- Settles O59: the own entry is rewritten wherever the station state changes, and only an evaluated row and a completed scan lengthen a
window or the peak history, each keeping its last W items. -/
theorem entryAndWindowsFollow : Obligations.EntryAndWindowsFollow := by
  intro s t hmode hown hwindows hstep
  refine ⟨kept_ownEntryFollows.step (fun _ _ h => h) (fun _ h => h) s t hown hstep, ?_⟩
  obtain ⟨-, ⟨ha, hb, hcz⟩, hp⟩ := kept_windowed.step (fun _ _ h => h.of_holds (.of_eq rfl rfl rfl))
    (fun _ h => ⟨h.bare, h.zones, h.peaks⟩) s t (s.windowed_of hmode hwindows) hstep
  exact ⟨ha, hb, hcz, hp⟩

end Sys2Proof.Machine
end

section
/-! PROOFS. The queue, power and resets (R157, R171, R185), and the passing of a microsecond (R2). -/

namespace Sys2Proof.Machine

section
variable {s : State}

/-! ## The queue -/

theorem step_of_pending {c : Instr} {rest : List Instr} (h : s.pending = c :: rest) :
    step s = exec c { s with pending := rest } := by
  simp [step, h]

theorem step_of_idle (h : s.pending = []) : step s = .next s.idle := by simp [step, h]

/-- Settles O1: a step is defined by the queue's front. -/
theorem stepRunsFrontCommand : Obligations.StepRunsFrontCommand := fun _ _ _ h => step_of_pending h

/-- Time leaves of a response everything but the count of characters sent. -/
theorem Link.atTime_frame (l : Link) (now : Nat) :
    (l.atTime now).rate = l.rate ∧ (l.atTime now).receiver = l.receiver ∧ (l.atTime now).counters = l.counters ∧
    (l.atTime now).awaitingMatch = l.awaitingMatch ∧ (l.atTime now).response.isSome = l.response.isSome := by
  unfold Link.atTime
  split
  · rename_i h; simp [h]
  · simp

/-- Settles O2: an idle step is the elapse of one microsecond, or nothing. -/
theorem idleStepIsAMicrosecond : Obligations.IdleStepIsAMicrosecond := by
  intro s hpending
  refine ⟨fun hp hfree => ?_, fun hstuck => ?_⟩
  · have hidle : s.idle = s.elapse 1 := by simp [State.idle, hp, hfree]
    obtain ⟨hrate, hreceiver, hcounters, -, hresponse⟩ := s.link.atTime_frame (s.now + 1)
    exact ⟨s.elapse 1, (step_of_idle hpending).trans (by rw [hidle]), rfl, rfl, rfl, rfl, rfl, rfl, rfl, rfl, rfl, rfl, rfl, rfl,
      hrate, hreceiver, hcounters, hresponse⟩
  · have hidle : s.idle = s := by
      rcases hstuck with h | h <;> simp [State.idle, h]
    exact (step_of_idle hpending).trans (by rw [hidle])

/-! ## Power -/

theorem live_unpowered {f : State → State} (hp : s.powered = false) : live s f = .next s := by simp [live, hp]

/-- Every command but POWER_ON is a change of a live part, which a part without power is not. -/
theorem exec_live (c : Instr) (s : State) (hne : ∀ straps mv, c ≠ .powerOn straps mv) : ∃ f, exec c s = live s f := by
  cases c with
  | powerOn straps mv => exact (hne straps mv rfl).elim
  | _ => simp only [exec]; exact ⟨_, rfl⟩

/-- Settles O4: a part without power is not live. -/
theorem withoutPowerOnlyPowerOnActs : Obligations.WithoutPowerOnlyPowerOnActs := by
  intro c s hp hne
  obtain ⟨f, hf⟩ := exec_live c s hne
  rw [hf, live_unpowered hp]

theorem live_answers (s : State) (f : State → State) : ∃ t, live s f = .next t := by
  unfold live
  split <;> exact ⟨_, rfl⟩

theorem exec_answers (c : Instr) (s : State) : ∃ t, exec c s = .next t := by
  by_cases hon : ∃ straps mv, c = .powerOn straps mv
  · obtain ⟨straps, mv, rfl⟩ := hon
    exact ⟨_, rfl⟩
  · obtain ⟨f, hf⟩ := exec_live c s fun straps mv h => hon ⟨straps, mv, h⟩
    rw [hf]
    exact live_answers s f

/-- No operation touches the queue. -/
theorem kept_pending (q : List Instr) : Kept fun s => s.pending = q where
  power _ _ h := h
  reset _ _ _ h := h
  readEnd _ _ _ h := by simpa using h
  hold _ h := by simpa using h
  bareMark _ _ h := by simpa using h
  localMark _ _ h := by simpa using h
  roundMark _ _ h := by simpa using h
  rowClosed _ _ _ _ h := by simpa using h
  block _ _ _ _ h := by simpa using h
  scan _ _ h := by simpa using h
  contrib _ _ _ h := by simpa using h
  leaveFrame _ _ _ h := by simpa using h
  unknownLead _ _ _ h := by simpa using h
  malformed _ _ h := by simpa using h
  backToHunt _ _ h := by simpa using h
  framing _ _ _ _ h := by simpa using h
  truncation _ _ _ h := by simpa using h
  clearSeen _ _ _ h := by simpa using h
  sent _ _ h := by simpa using h
  clearEnd _ _ h := by simpa using h
  gapEnd _ _ h := by simpa using h
  link _ _ h := h
  ack _ h := h
  release _ _ h := h
  leave _ _ h := by simpa using h
  read _ _ h := h

/-- Settles O3: every command answers next, and every operation keeps the queue. -/
theorem everyCommandAnswersNext : Obligations.EveryCommandAnswersNext := by
  intro c s
  obtain ⟨t, ht⟩ := exec_answers c s
  exact ⟨t, ht, (kept_pending s.pending).exec c s t rfl ht⟩

/-! ## Resets -/

/-- A reset gives every block the values of State.reset, but for the cause and the straps, and RESET is offered to what it leaves of the
Event List. -/
theorem State.resetBy_eq (s : State) (cause : ResetCause) (straps : Straps) : s.resetBy cause straps =
    { State.reset with
      pending := s.pending
      now := s.now
      freeIndex := s.freeIndex
      life := LifeCycle.initial cause straps.toNat
      events := (s.events.afterReset cause).offer
        { kind := .reset, round := 0, subject := straps.toNat, detail := [byte cause.code] } } := rfl

/-- Settles O5: POWER_ON at 2.70 V is a reset, which empties the Event List first. -/
theorem powerOnResets : Obligations.PowerOnResets := by
  intro straps mv s h
  rw [exec_powerOn_reset h, State.resetBy_eq]
  rfl

/-- Settles O6: SUPPLY_RESTORE above the restore level is a reset that keeps the Event List, below it nothing; POWER_LOSS in LOW takes the
power alone. -/
theorem supplyRestoreAndLoss : Obligations.SupplyRestoreAndLoss := by
  refine ⟨fun straps mv s hp hlow hmv => ?_, fun straps mv s hmv => ?_, fun s hp hlow => ?_⟩
  · rw [exec_supplyRestore_reset hp hlow hmv, State.resetBy_eq]
    rfl
  · have hbelow : s.supplyRestore straps mv = s := by
      have hlevel : ¬ s.watchedLevel + 80 ≤ mv := by omega
      simp [State.supplyRestore, hlevel]
    show live s (fun s => s.supplyRestore straps mv) = .next s
    simp [live, hbelow]
  · exact (live_powered hp).trans (by rw [if_pos hlow])

/-- Settles O60: the reset values satisfy each part of the invariant. -/
theorem resetIsSound : Obligations.ResetIsSound where
  queues := by decide
  frames := by decide
  events := by decide
  trips := by decide
  bf := by decide
  mode := by decide
  zones := by decide
  row := by decide
  own := by decide
  windows := by decide

end
end Sys2Proof.Machine
end

section
/-! PROOFS. The configuration read and the marks: bare, local and round marks, the debounce they read with, and the entries to STABILISE,
CONFIG_FAULT, LISTEN and JOINING (R2, R3, R7, R10, R19, R27, R30, R160, R161). -/

namespace Sys2Proof.Machine

/-! ## What a mark does in the Acquisition Unit -/

section
variable (a : Acquisition) (config : Option Configuration) (x : BayLines) (tag : ScanTag)

@[simp] theorem Acquisition.beginScan_frame : (a.beginScan tag).ref = a.ref ∧ (a.beginScan tag).currents = a.currents ∧
    (a.beginScan tag).quality = a.quality ∧ (a.beginScan tag).isoA = a.isoA ∧ (a.beginScan tag).isoB = a.isoB ∧
    (a.beginScan tag).breaker = a.breaker ∧ (a.beginScan tag).initiation = a.initiation := by
  unfold Acquisition.beginScan; split <;> simp

theorem Acquisition.beginScan_idle {a : Acquisition} (h : a.scan = none) : (a.beginScan tag).scan = some tag := by
  simp [Acquisition.beginScan, h]

theorem Acquisition.beginScan_busy {a : Acquisition} (h : a.scan ≠ none) :
    (a.beginScan tag).scan = a.scan ∧ (a.beginScan tag).pendingScan = some tag := by
  cases hs : a.scan with
  | none => exact (h hs).elim
  | some t => simp [Acquisition.beginScan, hs]

/-- The unit at a mark: its inputs read, then a scan begun or made pending (R19). -/
def Acquisition.marked : Acquisition := (a.readLines config x).beginScan tag

@[simp] theorem Acquisition.marked_frame : (a.marked config x tag).ref = a.ref ∧ (a.marked config x tag).currents = a.currents ∧
    (a.marked config x tag).quality = a.quality := by
  simp [Acquisition.marked, Acquisition.readLines]

@[simp] theorem Acquisition.marked_inputs : (a.marked config x tag).isoA = readInput config (linePositions x).isoA a.isoA ∧
    (a.marked config x tag).isoB = readInput config (linePositions x).isoB a.isoB ∧
    (a.marked config x tag).breaker = readInput config (linePositions x).breaker a.breaker ∧
    (a.marked config x tag).initiation = readInput config x.bfi a.initiation := by
  simp [Acquisition.marked, Acquisition.readLines]

theorem Acquisition.marked_idle {a : Acquisition} (h : a.scan = none) : (a.marked config x tag).scan = some tag :=
  Acquisition.beginScan_idle tag (a := a.readLines config x) h

theorem Acquisition.marked_busy {a : Acquisition} (h : a.scan ≠ none) :
    (a.marked config x tag).scan = a.scan ∧ (a.marked config x tag).pendingScan = some tag :=
  Acquisition.beginScan_busy tag (a := a.readLines config x) h

theorem State.acquireMark_acquisition (s : State) :
    (s.acquireMark x tag).acquisition = s.acquisition.marked s.life.config x tag := rfl

end

/-- A change of the station state, in the Controller (R156). -/
theorem State.enter_life (s : State) (new : StationState) (gs : List (List Draft)) : (s.enter new gs).life =
    { s.life with
      state := new
      pendingRelease := if s.life.state = .present ∧ new ≠ .present then ZoneSet.empty else s.life.pendingRelease } :=
  (State.offerGroups_frame _ _).2.2.2.2.2.2.2.2.2.2.2.1

/-! ## Bare marks -/

section
variable {s : State} {c : Configuration} (x : BayLines)

theorem exec_bareMark (hp : s.powered = true) : exec (.bareMark x) s = .next (s.bareMark x) :=
  live_powered (f := fun s => s.bareMark x) hp

theorem State.bareMark_timer (h : s.timer.mode = .bare) : (s.bareMark x).timer.phase = 0 ∧ (s.bareMark x).timer.mode = .bare ∧
    (s.bareMark x).timer.round = s.timer.round := by
  simp [State.bareMark, h, State.passTo, RoundTimer.bareMark, RoundTimer.addMark, State.elapse]

theorem State.bareMark_acquisition (h : s.timer.mode = .bare) :
    (s.bareMark x).acquisition = s.acquisition.marked s.life.config x .bare := by
  simp only [State.bareMark, if_pos h]
  rfl

/-- Settles O10: a bare mark is the timer's mark and a read of the inputs, which without a configuration are adopted at once. -/
theorem bareMarkReadsRaw : Obligations.BareMarkReadsRaw := by
  intro x s hp hmode hc
  obtain ⟨hphase, hmode', hround⟩ := s.bareMark_timer x hmode
  have hacq := s.bareMark_acquisition x hmode
  rw [hc] at hacq
  refine ⟨s.bareMark x, exec_bareMark x hp, hphase, hmode', hround, ?_, ?_, fun hs => ?_, fun hs => ?_, ?_⟩
  · simp [hacq, Acquisition.positions, readInput]
  · simp [hacq, readInput]
  · rw [hacq, Acquisition.marked_idle _ _ _ hs]
  · rw [hacq]
    exact Acquisition.marked_busy _ _ _ hs
  · simp

/-! ## Local marks -/

theorem exec_localMark (hp : s.powered = true) : exec (.localMark x) s = .next (s.localMark x) :=
  live_powered (f := fun s => s.localMark x) hp

section
variable (hm : s.timer.mode = .localMarks) (hc : s.life.config = some c)
include hm hc

theorem State.localMark_settles (h : s.settlesNext = true) : s.localMark x = (s.passTo c.period).settle c x := by
  simp [State.localMark, hm, hc, h]

theorem State.localMark_numbers (h : s.settlesNext = false) (hn : s.numbersNext c = true) :
    s.localMark x = (s.passTo c.period).startNumbering c x := by
  simp [State.localMark, hm, hc, h, hn]

theorem State.localMark_stays (h : s.settlesNext = false) (hn : s.numbersNext c = false) :
    s.localMark x = ((s.passTo c.period).localMarkBlocks c x).offerAll ((s.passTo c.period).healthDrafts c) := by
  simp [State.localMark, hm, hc, h, hn]

end

theorem State.localMarkBlocks_acquisition (s : State) (c : Configuration) :
    (s.localMarkBlocks c x).acquisition = s.acquisition.marked s.life.config x .localMark := by
  simp [State.localMarkBlocks, State.acquireMark_acquisition]

theorem State.passTo_timer (s : State) (n : Nat) : (s.passTo n).timer =
    { s.timer with phase := if s.timer.mode = .stopped then s.timer.phase else s.timer.phase + (n - s.timer.phase) } := rfl

/-- A local mark that ends no stage, block by block. -/
theorem State.localMark_running (hm : s.timer.mode = .localMarks) (hc : s.life.config = some c)
    (h : s.settlesNext = false) (hn : s.numbersNext c = false) :
    (s.localMark x).timer.phase = 0 ∧ (s.localMark x).timer.mode = .localMarks ∧
    (s.localMark x).timer.round = s.timer.round ∧ (s.localMark x).timer.localCount = bump16 s.timer.localCount ∧
    (s.localMark x).life = { s.life with stageCount := bump 64 s.life.stageCount } ∧
    (s.localMark x).acquisition = s.acquisition.marked (some c) x .localMark ∧ (s.localMark x).table = s.table ∧
    (s.localMark x).membership = s.membership ∧ (s.localMark x).replica = s.replica ∧ (s.localMark x).zones = s.zones ∧
    (s.localMark x).trip = s.trip ∧ (s.localMark x).supply = s.supply := by
  simp only [State.localMark_stays x hm hc h hn, State.offerAll_frame, State.localMarkBlocks_acquisition]
  simp [State.localMarkBlocks, State.passTo, State.elapse, RoundTimer.localMark, RoundTimer.addMark, hm, hc]

/-- The 64th local mark of STABILISE, block by block. -/
theorem State.localMark_settled (hm : s.timer.mode = .localMarks) (hc : s.life.config = some c) (h : s.settlesNext = true) :
    (s.localMark x).life.state = .listen ∧ (s.localMark x).life.stageCount = 0 ∧ (s.localMark x).timer.localCount = 0 ∧
    (s.localMark x).timer.mode = .localMarks ∧ (s.localMark x).supply = { s.supply with ready := true } ∧
    (s.localMark x).life.config = some c ∧ (s.localMark x).table = s.table ∧ (s.localMark x).replica = s.replica ∧
    (s.localMark x).zones = s.zones := by
  simp [State.localMark_settles x hm hc h, State.settle, State.localMarkBlocks, State.passTo, State.elapse, RoundTimer.localMark,
    RoundTimer.addMark, State.enter_life, hm, hc]

end

/-- Settles O11: a mark that ends no stage runs the local blocks alone; the 64th of STABILISE settles the station. -/
theorem localMarksRunTheirStages : Obligations.LocalMarksRunTheirStages := by
  refine ⟨fun x s c hp hm hc hstage => ?_, fun x s c hp hm hc hst hcount => ?_⟩
  · have hstays : s.settlesNext = false ∧ s.numbersNext c = false := by
      rcases hstage with ⟨hst, hcount⟩ | ⟨hst, hcount⟩
      · refine ⟨?_, ?_⟩ <;> simp [State.settlesNext, State.numbersNext, hst] ; omega
      · refine ⟨?_, ?_⟩ <;> simp [State.settlesNext, State.numbersNext, hst] ; omega
    obtain ⟨hphase, hmode, hround, hcount, hlife, hacq, htable, hmem, hrep, hzones, htrip, hsupply⟩ :=
      State.localMark_running x hm hc hstays.1 hstays.2
    refine ⟨s.localMark x, exec_localMark x hp, hphase, hmode, hround, hcount, hlife, fun hs => ?_, fun hs => ?_, ?_, htable,
      hmem, hrep, hzones, htrip, hsupply⟩
    · rw [hacq, Acquisition.marked_idle _ _ _ hs]
    · rw [hacq]
      exact Acquisition.marked_busy _ _ _ hs
    · simp [hacq]
  · have hsettles : s.settlesNext = true := by simp [State.settlesNext, hst, hcount]
    refine ⟨s.localMark x, ?_, State.localMark_settled x hm hc hsettles⟩
    exact (live_powered hp).trans (by rw [if_pos hsettles])

/-! ## The start of numbering -/

section
variable {s : State} {c : Configuration} (x : BayLines)

theorem State.startNumbering_acquisition (s : State) (c : Configuration) :
    (s.startNumbering c x).acquisition = s.acquisition.marked s.life.config x (.round 0) := by
  simp [State.startNumbering, State.acquireMark_acquisition]

theorem State.startNumbering_timer (s : State) (c : Configuration) :
    (s.startNumbering c x).timer = s.timer.startNumbering c.period s.now := by
  simp [State.startNumbering]

end

/-- Settles O12: the last local mark of LISTEN begins round 0 and enters JOINING. -/
theorem ownNumberingStarts : Obligations.OwnNumberingStarts := by
  intro x s c hp hm hc hst hcount
  have hnumbers : s.numbersNext c = true := by
    simp only [State.numbersNext, hst, beq_self_eq_true, Bool.true_and, decide_eq_true_eq]
    omega
  have hsettles : s.settlesNext = false := by simp [State.settlesNext, hst]
  have hmark := State.localMark_numbers x hm hc hsettles hnumbers
  have htimer := (s.passTo c.period).startNumbering_timer x c
  have hacq := (s.passTo c.period).startNumbering_acquisition x c
  have hown : ((s.passTo c.period).startNumbering c x).ownNumber = c.station :=
    State.ownNumber_configured (by simp [State.startNumbering, State.passTo, hc])
  refine ⟨(s.passTo c.period).startNumbering c x, ?_, by simp [State.startNumbering], by rw [htimer]; rfl, by rw [htimer]; rfl,
    by rw [htimer]; rfl, by rw [htimer]; rfl, by rw [htimer]; rfl, by rw [htimer]; rfl, ?_,
    by simp [State.startNumbering], by simp [State.startNumbering], by simp [State.startNumbering], fun hs => ?_,
    fun e he hn => ?_, by simp [State.passTo], by simp [State.passTo], by simp [State.passTo]⟩
  · simp only [exec, execStartOfOwnNumbering]
    rw [live_powered hp]
    simp only [hc, hnumbers, if_true, hmark]
  · rw [htimer]
    simp [RoundTimer.startNumbering]
  · rw [hacq]
    exact Acquisition.marked_idle _ _ _ (by simpa [State.passTo] using hs)
  · have hfollows : ((s.passTo c.period).startNumbering c x).ownEntryFollows := State.enter_own _ _ _
    rw [hfollows e he (by rw [hown]; exact hn)]
    simp [State.startNumbering, ownEntryState]

/-! ## Round marks -/

section
variable {s : State} {c : Configuration} (x : BayLines)

theorem exec_roundMark (hp : s.powered = true) : exec (.roundMark x) s = .next (s.roundMark x) :=
  live_powered (f := fun s => s.roundMark x) hp

section
variable (hm : s.timer.mode = .numbered) (hc : s.life.config = some c) (hahead : s.closeAhead = false)
include hm hc hahead

theorem State.roundMark_timer :
    (s.roundMark x).timer = s.timer.roundMark c.period (s.now + (s.timer.roundLength - s.timer.phase)) := by
  simp only [State.roundMark, hm, hc, hahead, Bool.false_eq_true, if_false]
  split <;> simp <;> rfl

theorem State.roundMark_acquisition :
    (s.roundMark x).acquisition = s.acquisition.marked (some c) x (.round (s.timer.round + 1)) := by
  simp only [State.roundMark, hm, hc, hahead, Bool.false_eq_true, if_false]
  have hmarked (u : State) (hu : u.acquisition = s.acquisition) (hl : u.life.config = some c) (k : Round) :
      (u.acquireMark x (.round k)).acquisition = s.acquisition.marked (some c) x (.round k) := by
    rw [State.acquireMark_acquisition, hu, hl]
  split
  · rw [(State.transition_frame _ _ _ _).2.2.2.2.1]
    exact hmarked _ rfl hc _
  · exact hmarked _ rfl hc _

/-- A round mark outside LISTEN leaves the station where it is (R161). -/
theorem State.roundMark_stays (hst : s.life.state ≠ .listen) :
    (s.roundMark x).life = s.life ∧ (s.roundMark x).membership = s.membership ∧ (s.roundMark x).events = s.events ∧
    (s.roundMark x).trip = s.trip := by
  simp [State.roundMark, hm, hc, hahead, hst, State.passTo]

/-- In LISTEN it is the mark that follows a capture, and enters JOINING (R10, R161). -/
theorem State.roundMark_joins (hst : s.life.state = .listen) :
    (s.roundMark x).life.state = .joining ∧ (s.roundMark x).life.config = some c ∧ (s.roundMark x).trip = s.trip := by
  simp [State.roundMark, hm, hc, hahead, hst, State.passTo, tripExit, StationState.contributing]

end
end

/-- Settles O13: a round mark is the timer's mark and the reads and scan of the new round, and joins a station that captured. -/
theorem roundMarkAdvances : Obligations.RoundMarkAdvances := by
  intro x s c hp hm hahead hc
  have htimer := State.roundMark_timer x hm hc hahead
  have hacq := State.roundMark_acquisition x hm hc hahead
  have hnow : (s.roundMark x).now = s.now + (s.timer.roundLength - s.timer.phase) := by
    simp only [State.roundMark, hm, hc, hahead, Bool.false_eq_true, if_false]
    split <;> simp [State.passTo]
  have hstate : (s.roundMark x).life.state = (if s.life.state = .listen then .joining else s.life.state) ∧
      (s.roundMark x).life.config = s.life.config ∧ (s.roundMark x).trip = s.trip := by
    by_cases hst : s.life.state = .listen
    · obtain ⟨hjoining, hconfig, htrip⟩ := State.roundMark_joins x hm hc hahead hst
      exact ⟨by rw [if_pos hst, hjoining], hconfig.trans hc.symm, htrip⟩
    · obtain ⟨hlife, -, -, htrip⟩ := State.roundMark_stays x hm hc hahead hst
      exact ⟨by rw [if_neg hst, hlife], by rw [hlife], htrip⟩
  refine ⟨s.roundMark x, exec_roundMark x hp, ?_, by rw [htimer]; rfl, by rw [htimer]; rfl, by rw [htimer]; rfl,
    by rw [htimer]; rfl, by rw [htimer]; rfl, ?_, fun hs => ?_, fun hs => ?_, by simp [hacq], by simp [hacq], hstate.1, hstate.2.1,
    by simp, by simp, by simp, by simp, hstate.2.2, by simp, fun hst => ?_⟩
  · rw [htimer]
    exact hm
  · rw [htimer, hnow]
    rfl
  · rw [hacq]
    exact Acquisition.marked_idle _ _ _ hs
  · rw [hacq]
    exact (Acquisition.marked_busy _ _ _ hs).2
  · obtain ⟨hlife, hmem, hevents, -⟩ := State.roundMark_stays x hm hc hahead hst
    exact ⟨hlife, hmem, hevents⟩

/-! ## The debounce -/

theorem Debounce.step_adopts {α : Type} [DecidableEq α] {limit : Nat} {read : α} {d : Debounce α} (h : d.adoptsNow limit read) :
    d.step limit read = ⟨read, none⟩ := by
  obtain ⟨hne, n, hcandidate, hlimit⟩ := h
  simp [Debounce.step, hne, hcandidate, hlimit]

@[simp] theorem DoubleBit.ofCode_code (v : DoubleBit) : DoubleBit.ofCode v.code = v := by cases v <;> rfl

theorem DoubleBit.code_injective {a b : DoubleBit} (h : a.code = b.code) : a = b := by
  rw [← a.ofCode_code, h, b.ofCode_code]

theorem Acquisition.marked_settled {i : BayInput} {a : Acquisition} {c : Configuration} {x : BayLines} (tag : ScanTag)
    (h : inputAdopts i c.debounce x a) :
    inputSettled i x (a.marked (some c) x tag) ∧ (a.marked (some c) x tag).inputCode i ≠ a.inputCode i := by
  cases i with
  | isolatorA | isolatorB | breaker =>
    have hread := Debounce.step_adopts h
    refine ⟨by simpa [inputSettled, readInput] using hread, fun hcode => h.1 (DoubleBit.code_injective ?_)⟩
    simpa [Acquisition.inputCode, readInput, hread] using hcode
  | initiation =>
    have hread := Debounce.step_adopts h
    refine ⟨by simpa [inputSettled, readInput] using hread, fun hcode => h.1 ?_⟩
    cases hx : x.bfi <;> cases ha : a.initiation.value <;>
      simp_all [Acquisition.inputCode, readInput, bit]

/-- The next mark, whatever the timer's mode: the unit's reads and scan, a phase of 0 and the output as it was. -/
theorem State.nextMark_reads {s : State} {c : Configuration} (x : BayLines) (hcomes : s.markComes) (hc : s.life.config = some c) :
    (∃ tag, (s.nextMark x).acquisition = s.acquisition.marked (some c) x tag) ∧ (s.nextMark x).timer.phase = 0 ∧
    (s.nextMark x).trip.energised = s.trip.energised := by
  obtain ⟨hp, hmode, hahead⟩ := hcomes
  unfold State.nextMark
  split
  · contradiction
  · rename_i hm
    exact ⟨⟨_, hc ▸ s.bareMark_acquisition x hm⟩, (s.bareMark_timer x hm).1, by simp⟩
  · rename_i hm
    cases hsettles : s.settlesNext with
    | true =>
      have hst : s.life.state ≠ .present := fun h => by simp [State.settlesNext, h] at hsettles
      rw [State.localMark_settles x hm hc hsettles]
      refine ⟨⟨.localMark, ?_⟩, by simp [State.settle, State.localMarkBlocks, RoundTimer.localMark], ?_⟩
      · simp [State.settle, State.localMarkBlocks_acquisition, State.passTo, hc]
      · simp [State.settle, State.localMarkBlocks, State.passTo, tripExit_energised, hst]
    | false =>
      cases hnumbers : s.numbersNext c with
      | true =>
        have hst : s.life.state ≠ .present := fun h => by simp [State.numbersNext, h] at hnumbers
        rw [State.localMark_numbers x hm hc hsettles hnumbers]
        refine ⟨⟨.round 0, ?_⟩, by rw [State.startNumbering_timer]; rfl, ?_⟩
        · simp [State.startNumbering_acquisition, State.passTo, hc]
        · simp [State.startNumbering, State.passTo, tripExit_energised, hst]
      | false =>
        obtain ⟨hphase, -, -, -, -, hacq, -, -, -, -, htrip, -⟩ := State.localMark_running x hm hc hsettles hnumbers
        exact ⟨⟨_, hacq⟩, hphase, by rw [htrip]⟩
  · rename_i hm
    refine ⟨⟨_, State.roundMark_acquisition x hm hc hahead⟩, by rw [State.roundMark_timer x hm hc hahead]; rfl, ?_⟩
    by_cases hst : s.life.state = .listen
    · rw [(State.roundMark_joins x hm hc hahead hst).2.2]
    · rw [(State.roundMark_stays x hm hc hahead hst).2.2.2]

/-- Settles O14: the mark reads the input with its count at the limit, and DEBOUNCE_ADOPT is that mark. -/
theorem debounceAdopts : Obligations.DebounceAdopts := by
  intro i x s c hcomes hc hadopts
  obtain ⟨⟨tag, hacq⟩, hphase, htrip⟩ := State.nextMark_reads x hcomes hc
  obtain ⟨hsettled, hcode⟩ := Acquisition.marked_settled tag hadopts
  have hbrings : s.bringsAdoption i x = true := by simp [State.bringsAdoption, hc, hacq, hcode]
  refine ⟨s.nextMark x, ?_, by rwa [hacq], hphase, by simp [hacq], by simp [hacq], by simp, by simp, htrip⟩
  exact (live_powered hcomes.1).trans (by rw [if_pos hbrings])

end Sys2Proof.Machine
end

section
/-! PROOFS. The configuration read (R158 to R161) and the entry to HOLD (R53, R169, R170). -/

namespace Sys2Proof.Machine

section
variable {s : State}

/-! ## The configuration read -/

theorem exec_configReadEnd (b : List Byte) (x : BayLines) (hp : s.powered = true) :
    exec (.configReadEnd b x) s = .next (s.configReadEnd b x) := live_powered (f := fun s => s.configReadEnd b x) hp

theorem State.configReadEnd_good {b : List Byte} (x : BayLines) (hst : s.life.state = .start) (hlen : b.length = readLength b)
    (hgood : imageCheck s.life.strap b = .good) : s.configReadEnd b x = s.enterStabilise b x := by
  rw [State.configReadEnd, if_pos ⟨hst, hlen⟩, hgood]

theorem State.configReadEnd_bad {b : List Byte} (x : BayLines) (hst : s.life.state = .start) (hlen : b.length = readLength b)
    (hbad : imageCheck s.life.strap b ≠ .good) :
    s.configReadEnd b x = s.enterConfigFault b (imageCheck s.life.strap b) x := by
  rw [State.configReadEnd, if_pos ⟨hst, hlen⟩]
  split
  · contradiction
  · rfl

/-- The entries a station enters STABILISE with are as they were made: the own one too is UNKNOWN (R76, R89). -/
theorem Entry.fresh_following (roster : List RosterEntry) (n : Nat) :
    (roster.map Entry.fresh).map (fun e => if e.station == n then { e with state := .unknown } else e) = roster.map Entry.fresh := by
  rw [List.map_map]
  refine List.map_congr_left fun r _ => ?_
  dsimp only [Function.comp_apply]
  split <;> rfl

/-- The change of state leaves the two out-lanes asking for a line clear (R36). -/
theorem State.requestClear_both (s : State) (l : Lane) :
    (((s.requestClear .one).requestClear .two).lane l).clearPending = true ∨
    (((s.requestClear .one).requestClear .two).lane l).transmitter = .clearing := by
  rw [State.requestClear_eq, State.requestClear_eq, State.lane_setLane, State.lane_setLane]
  cases l with
  | one => exact LaneState.cleared_asks _
  | two => exact LaneState.cleared_asks _

/-- A change of state that only one group of records accompanies offers those. -/
theorem State.enter_events_single {new : StationState} {d : Draft} (hout : s.life.state = .present → new ≠ .present → s.trip.energised = false)
    (hbf : s.life.state.contributing = true → new.contributing = false → s.trip.bfFlag = false) :
    (s.enter new [[d]]).events = s.events.offer (s.asRecord d) := by
  have hquiet : tripExitDrafts s new = [[], []] := by
    unfold tripExitDrafts
    rw [if_neg, if_neg]
    · rintro ⟨hst, hnew, hflag⟩
      simp [hbf hst (by simpa using hnew)] at hflag
    · rintro ⟨hst, hnew, hon⟩
      simp [hout hst hnew] at hon
  simp [State.enter, hquiet, State.offerGroups]

end

/-- Settles O9: a good image is loaded and STABILISE entered with its first local mark; a bad one is recorded and CONFIG_FAULT entered with its
first bare mark. -/
theorem imageDecidesTheStart : Obligations.ImageDecidesTheStart := by
  refine ⟨fun b x s hp hst hlen hgood => ?_, fun b x s hp hst hlen hbad => ?_⟩
  · refine ⟨s.enterStabilise b x, (exec_configReadEnd b x hp).trans (by rw [State.configReadEnd_good x hst hlen hgood]),
      by simp [State.enterStabilise], by simp [State.enterStabilise, State.loadImage],
      by simp [State.enterStabilise, State.loadImage, State.transition, State.enter_life, sharedChecksum],
      by simp [State.enterStabilise, State.loadImage, State.transition, State.enter_life],
      by simp [State.enterStabilise, State.loadImage, State.transition, State.enter_life], ?_,
      by simp [State.enterStabilise, State.loadImage, RoundTimer.localMark, RoundTimer.addMark],
      by simp [State.enterStabilise, State.loadImage, RoundTimer.localMark, RoundTimer.addMark],
      by simp [State.enterStabilise, State.loadImage, RoundTimer.localMark, RoundTimer.addMark, bump16, bump],
      by simp [State.enterStabilise, State.loadImage, RoundTimer.localMark, RoundTimer.addMark], fun l => ?_,
      by simp [State.enterStabilise, State.loadImage], by simp [State.enterStabilise, State.loadImage],
      by simp [State.enterStabilise, State.loadImage], by simp [State.enterStabilise, State.loadImage]⟩
    · simp only [State.enterStabilise, State.acquireMark_frame, State.requestClear_frame, State.transition_membership,
        State.moveTo_entries]
      exact Entry.fresh_following _ _
    · have hlane : (s.enterStabilise b x).lane l = ((((s.loadImage (configOf b) (sharedChecksum b)).transition .stabilise
          .imageGood []).requestClear .one).requestClear .two).lane l := State.lane_eq _ _ (by simp [State.enterStabilise]) l
      rw [hlane]
      exact State.requestClear_both _ l
  · have hevents : (s.enterConfigFault b (imageCheck s.life.strap b) x).events = s.events.offer
        { kind := .configFault, round := s.timer.round, subject := s.life.strap,
          detail := faultDetail b (imageCheck s.life.strap b) } := by
      simp only [State.enterConfigFault, State.acquireMark_frame]
      exact State.enter_events_single (by simp [hst]) (by simp [hst, StationState.contributing])
    refine ⟨s.enterConfigFault b (imageCheck s.life.strap b) x,
      (exec_configReadEnd b x hp).trans (by rw [State.configReadEnd_bad x hst hlen hbad]),
      by simp [State.enterConfigFault], by simp [State.enterConfigFault, State.enter_life],
      by simp [State.enterConfigFault, State.enter_life], by simp [State.enterConfigFault, RoundTimer.bareMark, RoundTimer.addMark],
      by simp [State.enterConfigFault, RoundTimer.bareMark, RoundTimer.addMark], hevents, ?_⟩
    simp [State.enterConfigFault]

/-! ## The entry to HOLD -/

section
variable {s : State}

theorem exec_supplyLow {mv : Nat} (hp : s.powered = true) (hlow : s.supply.low = false) (hmv : mv < s.watchedLevel) :
    exec (.supplyLow mv) s = .next s.enterHold :=
  (live_powered (f := fun s => s.supplyLow mv) hp).trans (by simp [State.supplyLow, hlow, hmv])

/-- The station in HOLD, before any SUPPLY LEAVE joins a queue. -/
def State.held (s : State) : State := s.abandonStart.stopForHold.enter .hold [[holdDraft s]]

theorem State.enterHold_eq : s.enterHold = if s.life.state.contributing = true then
    (s.held.enqueueLeave .one (s.leaveFrame leaveSupply)).enqueueLeave .two (s.leaveFrame leaveSupply) else s.held := rfl

theorem State.held_lane (l : Lane) : s.held.lane l = (s.lane l).intoHold := by
  have hring : s.held.ring = s.stopForHold.ring := by simp [State.held, State.stopForHold]
  rw [State.lane_eq _ _ hring, State.stopForHold_lane]

/-- A report in HOLD changes nothing (R170). -/
theorem State.report_of_not_leaving (h : s.life.state ≠ .leaving) (sent : Bool) : s.report sent = s := by
  simp [State.report, h]

/-- Out of LEAVING an own LEAVE offered to a queue is a frame offered. -/
theorem State.enqueueLeave_of_not_leaving (h : s.life.state ≠ .leaving) (l : Lane) (f : QueuedFrame) :
    s.enqueueLeave l f = s.setLane l ((s.lane l).offered s.dress f) := by
  rw [State.enqueueLeave_eq]
  split
  · rfl
  · exact State.report_of_not_leaving (s := s.setLane l _) h false

theorem State.enterHold_contributing (h : s.life.state.contributing = true) : s.enterHold =
    (s.held.setLane .one ((s.lane .one).intoHold.offered s.held.dress (s.leaveFrame leaveSupply))).setLane .two
      ((s.lane .two).intoHold.offered s.held.dress (s.leaveFrame leaveSupply)) := by
  have hst : s.held.life.state = .hold := by simp [State.held]
  have hone := State.enqueueLeave_of_not_leaving (s := s.held) (by simp [hst]) .one (s.leaveFrame leaveSupply)
  rw [State.enterHold_eq, if_pos h, hone, State.enqueueLeave_of_not_leaving (by simp [hst]), State.lane_setLane,
    if_neg (by decide), State.held_lane, State.held_lane]
  rfl

theorem State.enterHold_waiting (h : s.life.state.contributing = false) : s.enterHold = s.held := by
  rw [State.enterHold_eq, if_neg (by simp [h])]

/-- The SUPPLY LEAVE frames change the ring alone. -/
theorem State.enterHold_beyond_ring : s.enterHold = { s.held with ring := s.enterHold.ring } := by
  cases h : s.life.state.contributing with
  | true => rw [State.enterHold_contributing h]; rfl
  | false => rw [State.enterHold_waiting h]

theorem State.enterHold_lane (l : Lane) : s.enterHold.lane l =
    if s.life.state.contributing = true then (s.lane l).intoHold.offered s.held.dress (s.leaveFrame leaveSupply)
    else (s.lane l).intoHold := by
  cases h : s.life.state.contributing with
  | true => rw [State.enterHold_contributing h]; cases l <;> rfl
  | false => rw [State.enterHold_waiting h]; exact State.held_lane l

/-! ### The frame that joins a queue -/

variable (dress : QueuedFrame → QueuedFrame) (f : QueuedFrame) (x : LaneState)

/-- A frame joined to a queue is in it, dressed perhaps. -/
theorem LaneState.joined_mem : f ∈ (x.joined dress f).queue ∨ dress f ∈ (x.joined dress f).queue := by
  rcases LaneState.kicked_queue dress { x with queue := x.queue ++ [f] } with hq | ⟨g, rest, hx, hq⟩
  · left; rw [LaneState.joined, hq]; simp
  · rw [LaneState.joined, hq]
    cases hqueue : x.queue with
    | nil =>
      obtain ⟨rfl, -⟩ : f = g ∧ [] = rest := by simpa [hqueue] using hx
      exact .inr List.mem_cons_self
    | cons y ys =>
      obtain ⟨-, rfl⟩ : y = g ∧ ys ++ [f] = rest := by simpa [hqueue] using hx
      exact .inl (by simp)

/-- A frame offered gives no line clear to wait for. -/
theorem LaneState.offered_clearPending (h : x.clearPending = false) : (x.offered dress f).clearPending = false := by
  unfold LaneState.offered LaneState.joined LaneState.kicked LaneState.served
  repeat' split
  all_goals first | exact h | rfl

theorem LaneState.intoHold_frame : x.intoHold.receiver = .hunt ∧ x.intoHold.clearPending = false ∧ x.intoHold.up = x.up :=
  ⟨rfl, rfl, rfl⟩

/-- A LEAVE frame as its transmission starts is an own LEAVE of the same reason. -/
theorem State.dress_leaveFrame (u : State) (reason : Byte) :
    (u.dress (s.leaveFrame reason)).isOwnLeave = true ∧ (u.dress (s.leaveFrame reason)).bytes.getD 7 0 = reason := by
  obtain ⟨age, hd⟩ := u.dress_eq (s.leaveFrame reason)
  have hlen : (s.leaveFrame reason).bytes.length = 12 := rfl
  have hlead := setAge_getElem? age (bs := (s.leaveFrame reason).bytes) (i := 0) (by omega) (by decide) (by decide)
  have hreason := setAge_getElem? age (bs := (s.leaveFrame reason).bytes) (i := 7) (by omega) (by decide) (by decide)
  rw [hd]
  simp only [QueuedFrame.isOwnLeave, List.getD_eq_getElem?_getD, hlead, hreason]
  exact ⟨rfl, rfl⟩

end

/-- A SUPPLY LEAVE is on each out-lane that has room (R170). -/
theorem State.enterHold_leaves {s : State} (hst : s.life.state.contributing = true) (l : Lane)
    (hroom : (s.lane l).intoHold.queue.length < 8) :
    ∃ f ∈ (s.enterHold.lane l).queue, f.isOwnLeave = true ∧ f.bytes.getD 7 0 = leaveSupply := by
  rw [State.enterHold_lane, if_pos hst, LaneState.offered, if_pos hroom]
  rcases LaneState.joined_mem s.held.dress (s.leaveFrame leaveSupply) (s.lane l).intoHold with hmem | hmem
  · exact ⟨_, hmem, rfl, rfl⟩
  · exact ⟨_, hmem, State.dress_leaveFrame s.held leaveSupply⟩

/-- What a supply that goes LOW takes from STABILISE and LISTEN (R161). -/
theorem State.abandonStart_eq (s : State) : s.abandonStart =
    if s.life.state = .stabilise ∨ s.life.state = .listen then
      { s with
        life := { s.life with stageCount := 0 }
        timer := { s.timer with captured := false, captureMark := none } }
    else s := rfl

/-- Whatever else is recorded at the entry to HOLD, SUPPLY_HOLD is, while there is room for three records. -/
theorem State.held_recorded {s : State} (hroom : s.events.records.length ≤ 61) :
    s.abandonStart.stopForHold.asRecord (holdDraft s) ∈ s.held.events.records := by
  have hexit : (tripExitDrafts s.abandonStart.stopForHold .hold).flatten.length ≤ 2 := by
    unfold tripExitDrafts
    split <;> split <;> simp
  refine State.offerGroups_mem (s := s.abandonStart.stopForHold.moveTo .hold) (d := holdDraft s) _ ?_ ?_
  · simp only [State.moveTo_frame, State.stopForHold_frame, State.abandonStart_frame, List.flatten_append, List.length_append]
    simp only [List.flatten_cons, List.flatten_nil, List.append_nil, List.length_singleton]
    omega
  · simp

/-- Settles O7: HOLD is entered by one change of state after the timer and the ring have stopped, and the LEAVE frames touch the ring alone. -/
theorem supplyLowHolds : Obligations.SupplyLowHolds := by
  intro mv s hp hlow hmv held
  have hring := s.enterHold_beyond_ring
  have hlife : s.enterHold.life = s.held.life := by rw [hring]
  have htimer : s.enterHold.timer = { s.abandonStart.timer with mode := .stopped } := by
    rw [hring]; simp [State.held, State.stopForHold]
  have htrip : s.enterHold.trip = tripExit s.life.state .hold s.trip := by rw [hring]; simp [State.held]
  have hevents : s.enterHold.events = s.held.events := by rw [hring]
  have hdraft : held = s.abandonStart.stopForHold.asRecord (holdDraft s) := by
    simp only [State.asRecord, holdDraft, State.stopForHold, State.abandonStart_frame, held]
    cases s.supply.ready <;> rfl
  refine ⟨s.enterHold, exec_supplyLow hp hlow hmv, by rw [hlife]; simp [State.held], ?_, ?_, fun hs hl => ?_, fun hs => ?_, ?_,
    fun hst => ?_, fun hst => ?_, fun l => ?_, fun l hst hroom => State.enterHold_leaves hst l hroom, fun l hst => ?_,
    fun hout hbf => ?_, fun hroom => ?_, by simp⟩
  · rw [hring]; simp [State.held, State.stopForHold]
  · rw [hlife, State.held, State.enter_life]
    simp only [State.stopForHold, State.abandonStart_eq]
    split <;> rfl
  · rw [htimer, State.abandonStart_eq, if_neg (not_or.mpr ⟨hs, hl⟩)]
  · rw [htimer, State.abandonStart_eq, if_pos hs]
  · rw [hring]; simp [State.held, State.stopForHold]
  · rw [htrip, tripExit_energised, if_pos ⟨hst, by decide⟩]
  · have hbf := tripExit_bf s.life.state .hold s.trip
    rw [if_pos ⟨hst, by decide⟩] at hbf
    simp only [Prod.mk.injEq] at hbf
    obtain ⟨hidle, -, hflag⟩ := hbf
    rw [htrip]
    exact ⟨hidle, hflag⟩
  · rw [State.enterHold_lane]
    split
    · exact ⟨by simp [LaneState.intoHold_frame], LaneState.offered_clearPending _ _ _ rfl, by simp [LaneState.intoHold_frame]⟩
    · exact (s.lane l).intoHold_frame
  · rw [State.enterHold_lane, if_neg (by simp [hst])]
  · rw [hevents, hdraft, State.held, State.enter_events_single]
    · simp
    · simpa using fun hst => hout hst
    · simpa using fun hst _ => hbf hst
  · rw [hevents, hdraft]
    exact State.held_recorded hroom

end Sys2Proof.Machine
end

section
/-! PROOFS. The own contribution as bytes, and read back (R58, R186). -/

namespace Sys2Proof.Machine

/-! ## Fields as bytes -/

theorem byte_toNat (n : Nat) : (byte n).toNat = n % 256 := by simp [byte]

theorem u16_bytes2 {n : Nat} (h : n < 65536) : (byte (n / 256)).toNat * 256 + (byte n).toNat = n := by
  rw [byte_toNat, byte_toNat]
  omega

theorem u24_bytes3 {n : Nat} (h : n < 16777216) :
    (byte (n / 65536)).toNat * 65536 + (byte (n / 256)).toNat * 256 + (byte n).toNat = n := by
  rw [byte_toNat, byte_toNat, byte_toNat]
  omega

/-- A current within its range is read as it was written (R186). -/
theorem readCurrent_signed24 {i : Int} (h : i.natAbs ≤ 8388607) : readCurrent (BitVec.ofInt 24 i).toNat = i := by
  have hi : (BitVec.ofInt 24 i).toInt = i := by
    rw [BitVec.toInt_ofInt]
    exact Int.bmod_eq_of_le (by omega) (by omega)
  unfold readCurrent
  dsimp only
  rw [BitVec.ofNat_toNat, BitVec.setWidth_eq, hi, if_neg (by omega)]

theorem readCurrent_bytes {i : Int} (h : i.natAbs ≤ 8388607) :
    readCurrent ((byte ((BitVec.ofInt 24 i).toNat / 65536)).toNat * 65536 +
      (byte ((BitVec.ofInt 24 i).toNat / 256)).toNat * 256 + (byte (BitVec.ofInt 24 i).toNat).toNat) = i := by
  rw [u24_bytes3 (BitVec.ofInt 24 i).isLt, readCurrent_signed24 h]

theorem readLowest_byte {n : Nat} (h : n < 40 ∨ n = 0xFF) : readLowest (byte n).toNat = n := by
  rw [byte_toNat]
  unfold readLowest
  split <;> omega

theorem ofNat_u16_bytes2 (k : Round) : BitVec.ofNat 16 ((byte (k.toNat / 256)).toNat * 256 + (byte k.toNat).toNat) = k := by
  rw [u16_bytes2 k.isLt, BitVec.ofNat_toNat, BitVec.setWidth_eq]

/-! ## Positions and flags -/

theorem DoubleBit.code_lt (v : DoubleBit) : v.code < 4 := by cases v <;> decide

theorem DoubleBit.ofCode_of_mod {n : Nat} {v : DoubleBit} (h : n % 4 = v.code) : DoubleBit.ofCode n = v := by
  rw [← v.ofCode_code, DoubleBit.ofCode, h]
  cases v <;> rfl

theorem bit_le (w : Nat) (b : Bool) : bit w b = 0 ∨ bit w b = w := by cases b <;> simp [bit]

theorem Positions.ofCode_code (p : Positions) (b : Bool) :
    Positions.ofCode (p.code + bit 64 b) = p ∧ bitAt (p.code + bit 64 b) 6 = b := by
  have ha := p.isoA.code_lt
  have hb := p.isoB.code_lt
  have hc := p.breaker.code_lt
  constructor
  · have hbit := bit_le 64 b
    have h1 : DoubleBit.ofCode (p.code + bit 64 b) = p.isoA := DoubleBit.ofCode_of_mod (by unfold Positions.code; omega)
    have h2 : DoubleBit.ofCode ((p.code + bit 64 b) / 4) = p.isoB := DoubleBit.ofCode_of_mod (by unfold Positions.code; omega)
    have h3 : DoubleBit.ofCode ((p.code + bit 64 b) / 16) = p.breaker := DoubleBit.ofCode_of_mod (by unfold Positions.code; omega)
    rw [Positions.ofCode, h1, h2, h3]
  · have hpos : p.code < 64 := by unfold Positions.code; omega
    cases b <;> simp [bitAt, bit] <;> omega

theorem Positions.byte_code (p : Positions) (b : Bool) : (byte (p.code + bit 64 b)).toNat = p.code + bit 64 b := by
  have ha := p.isoA.code_lt
  have hb := p.isoB.code_lt
  have hc := p.breaker.code_lt
  have hbit := bit_le 64 b
  rw [byte_toNat]
  refine Nat.mod_eq_of_lt ?_
  unfold Positions.code
  omega

/-- Four flags of a byte, each in its bit. -/
theorem bitAt_flags : ∀ p q r t : Bool, let n := (byte (bit 1 p + bit 2 q + bit 4 r + bit 8 t)).toNat
    bitAt n 0 = p ∧ bitAt n 1 = q ∧ bitAt n 2 = r ∧ bitAt n 3 = t := by decide

/-- The two sets of zones of a CONTRIB, each in its bits. -/
theorem bitAt_zones : ∀ a b x y z : Bool,
    let n := (byte ((⟨a, b⟩ : BusSet).code + 4 * (⟨x, y, z⟩ : ZoneSet).code)).toNat
    bitAt n 0 = a ∧ bitAt n 1 = b ∧ bitAt n 2 = x ∧ bitAt n 3 = y ∧ bitAt n 4 = z := by decide

/-- A CONTRIB read back gives what it was built from (R58, R186). -/
theorem readContrib_contribBytes {n : Nat} (k checksum : Round) {x : Content} (hn : n < 40) (hl : x.lowest < 40 ∨ x.lowest = 0xFF)
    (hcur : ∀ p, (x.currents.get p).natAbs ≤ 8388607) : readContrib (contribBytes n k x checksum) =
      { origin := n, round := k, age := 0, hops := 0, content := x, checksum := checksum } := by
  have horigin : u8 (contribBytes n k x checksum) 1 = n := (byte_toNat n).trans (by omega)
  have hround : BitVec.ofNat 16 (u16 (contribBytes n k x checksum) 2) = k := ofNat_u16_bytes2 k
  have hchecksum : BitVec.ofNat 16 (u16 (contribBytes n k x checksum) 20) = checksum := ofNat_u16_bytes2 checksum
  have hcontent : readContent (contribBytes n k x checksum) = x := by
    obtain ⟨sender, quality, eUp, wUp, ⟨positions, bf⟩, ⟨ta, tb⟩, ⟨ra, rb, rc⟩, lowest, ⟨ia, ib, ic⟩⟩ := x
    obtain ⟨h0, h1, h2, h3⟩ := bitAt_flags (sender == .present) (quality == .invalid) eUp wUp
    obtain ⟨z0, z1, z2, z3, z4⟩ := bitAt_zones ta tb ra rb rc
    obtain ⟨hpos, hbf⟩ := positions.ofCode_code bf
    rw [← Positions.byte_code] at hpos hbf
    have hsender : (if bitAt (byte (bit 1 (sender == .present) + bit 2 (quality == .invalid) + bit 4 eUp + bit 8 wUp)).toNat 0
        then SenderState.present else .joining) = sender := by rw [h0]; cases sender <;> rfl
    have hquality : (if bitAt (byte (bit 1 (sender == .present) + bit 2 (quality == .invalid) + bit 4 eUp + bit 8 wUp)).toNat 1
        then Quality.invalid else .valid) = quality := by rw [h1]; cases quality <;> rfl
    simp only [readContent, Content.mk.injEq, BayStatus.mk.injEq, BusSet.mk.injEq, ZoneSet.mk.injEq, Tri.mk.injEq]
    exact ⟨hsender, hquality, h2, h3, ⟨hpos, hbf⟩, ⟨z0, z1⟩, ⟨z2, z3, z4⟩, readLowest_byte hl, readCurrent_bytes (hcur .a),
      readCurrent_bytes (hcur .b), readCurrent_bytes (hcur .c)⟩
  have hage : u16 (contribBytes n k x checksum) 4 = 0 := show (0 : Byte).toNat * 256 + (0 : Byte).toNat = 0 by decide
  have hhops : u8 (contribBytes n k x checksum) 6 = 0 := show (0 : Byte).toNat = 0 by decide
  simp only [readContrib, horigin, hround, hchecksum, hcontent, hage, hhops]

end Sys2Proof.Machine
end

section
/-! PROOFS. The completion of a scan: what it stores, whom it tells, and the own contribution it builds (R20, R29, R58, R59). -/

namespace Sys2Proof.Machine

section
variable {s : State} {n : ScanCounts} {c : Configuration} {tag : ScanTag}

/-! ## What a scan stores -/

@[simp] theorem Acquisition.checkRef_frame (a : Acquisition) (good : Bool) :
    (a.checkRef good).ref = a.ref ∧ (a.checkRef good).currents = a.currents ∧ (a.checkRef good).scan = a.scan ∧
    (a.checkRef good).pendingScan = a.pendingScan ∧ (a.checkRef good).isoA = a.isoA ∧ (a.checkRef good).isoB = a.isoB ∧
    (a.checkRef good).breaker = a.breaker ∧ (a.checkRef good).initiation = a.initiation := by
  unfold Acquisition.checkRef
  repeat' split
  all_goals simp

/-- A scan's result goes to the Trip Unit: a round's or a void one, in JOINING, PRESENT and LEAVING (R29, R137). -/
def ScanTag.forTrip : ScanTag → Bool
  | .round _ | .void => true
  | .localMark | .bare => false

theorem ScanTag.forTrip_iff (tag : ScanTag) : tag.forTrip = true ↔ (∃ k, tag = .round k) ∨ tag = .void := by
  cases tag <;> simp [ScanTag.forTrip]

theorem StationState.working_iff (st : StationState) : st.working = true ↔ st.contributing = true ∨ st = .leaving := by
  cases st <;> simp [StationState.working, StationState.contributing]

theorem State.handOn_trip (s : State) (c : Configuration) (tag : ScanTag) (i : Tri Int) (q : Quality) :
    (s.handOn c tag i q).trip = if tag.forTrip && s.life.state.working
      then s.trip.appendPeak c.w { currents := i, quality := q } else s.trip := by
  cases tag with
  | localMark | bare => rfl
  | void =>
    simp only [State.handOn, ScanTag.forTrip, Bool.true_and]
    split <;> rfl
  | round k =>
    simp only [State.handOn, ScanTag.forTrip, Bool.true_and, StationState.working_iff]
    by_cases hc : s.life.state.contributing = true
    · simp [hc]
    · rw [if_neg hc]
      by_cases hl : s.life.state = .leaving
      · simp [hl]
      · simp [hl, Bool.eq_false_iff.mpr hc]

theorem State.scanComplete_tripUnit (hc : s.life.config = some c) (hs : s.acquisition.scan = some tag) :
    (s.scanComplete n).trip = if tag.forTrip && s.life.state.working
      then s.trip.appendPeak c.w { currents := scanCurrents (some c) n, quality := (s.scanComplete n).acquisition.quality }
      else s.trip := by
  have hquality : (s.scanComplete n).acquisition.quality = (s.scanUnit n).acquisition.quality := by
    simp [State.scanComplete_configured hc hs]
  rw [hquality, State.scanComplete_configured hc hs, State.handOn_trip]
  simp

theorem State.ownBuild_closedRows (s : State) (c : Configuration) (k : Round) (i : Tri Int) (q : Quality) (p : Positions) :
    (s.ownBuild c k i q p).table.newest = s.table.newest ∧ (s.ownBuild c k i q p).table.older = s.table.older := by
  unfold State.ownBuild
  dsimp only
  split <;> simp

/-- A scan leaves the closed rows alone. -/
theorem State.scanComplete_closedRows (hc : s.life.config = some c) (hs : s.acquisition.scan = some tag) :
    (s.scanComplete n).table.newest = s.table.newest ∧ (s.scanComplete n).table.older = s.table.older := by
  have hrows (i : Tri Int) (q : Quality) (p : Positions) (k : Round) := (s.scanUnit n).ownBuild_closedRows c k i q p
  simp only [State.scanUnit, State.offerAll_frame] at hrows
  rw [State.scanComplete_configured hc hs]
  unfold State.handOn
  repeat' split
  · simpa [State.handTrip, State.scanUnit] using hrows _ _ _ _
  all_goals simp [State.handTrip]

theorem State.scanComplete_unconfigured (hc : s.life.config = none) (hs : s.acquisition.scan = some tag) :
    s.scanComplete n = { s with acquisition := { s.acquisition with
      ref := some n.ref.toInt
      currents := some { a := n.ia.toInt, b := n.ib.toInt, c := n.ic.toInt }
      scan := s.acquisition.pendingScan
      pendingScan := none } } := by
  simp only [State.scanComplete, hs, hc, State.scanUnit, Acquisition.complete]
  cases s.acquisition.quality <;> rfl

end

/-- Settles O15: a scan stores its counts, scaled with a configuration, and goes to the Trip Unit by its tag and the station state. -/
theorem scanStores : Obligations.ScanStores := by
  refine ⟨fun n s c tag hp hc hs => ?_, fun n s tag hp hc hs => ?_⟩
  · have hacq := State.scanComplete_acquisition (n := n) hc hs
    have htrip := State.scanComplete_tripUnit (n := n) hc hs
    rw [← ScanTag.forTrip_iff]
    refine ⟨s.scanComplete n, exec_scanComplete hp, by rw [hacq]; simp [Acquisition.stored],
      by rw [hacq]; simp [Acquisition.stored, scanCurrents], by rw [hacq]; simp [Acquisition.stored],
      by rw [hacq]; simp [Acquisition.stored], by rw [hacq]; simp [Acquisition.positions, Acquisition.stored],
      by rw [hacq]; simp [Acquisition.stored], by simp, by simp, by simp, by simp, by simp, by simp,
      (State.scanComplete_closedRows hc hs).1, (State.scanComplete_closedRows hc hs).2, ?_,
      fun ⟨htag, hw⟩ => ?_, fun hno => ?_⟩
    · rw [htrip]
      split <;> rfl
    · rw [htrip, if_pos (by simp [htag, hw])]
      rfl
    · rw [htrip, if_neg (by simpa using hno)]
  · rw [exec_scanComplete hp, State.scanComplete_unconfigured hc hs]

end Sys2Proof.Machine
end

section
/-! PROOFS. The own contribution: built, placed and queued (R58, R59, R45). -/

namespace Sys2Proof.Machine

/-! ## Slots of a row -/

section
variable (r : Row) (n m : Nat) (b : SlotBody)

theorem Row.body_setBody_same (h : n < r.slots.length) : (r.setBody n b).body n = b := by
  simp [Row.body, Row.setBody, h]

theorem Row.body_setBody_ne (h : m ≠ n) : (r.setBody n b).body m = r.body m := by
  simp [Row.body, Row.setBody, Ne.symm h]

end

/-! ## The queue an own frame joins -/

section
variable (dress : QueuedFrame → QueuedFrame) (f : QueuedFrame) (x : LaneState)

/-- A frame joined to a queue is its last, dressed perhaps. -/
theorem LaneState.joined_last : (x.joined dress f).queue.length = x.queue.length + 1 ∧
    ((x.joined dress f).queue.getLast? = some f ∨ (x.joined dress f).queue.getLast? = some (dress f)) := by
  rcases LaneState.kicked_queue dress { x with queue := x.queue ++ [f] } with hq | ⟨g, rest, hx, hq⟩
  · rw [LaneState.joined, hq]; simp
  · rw [LaneState.joined, hq]
    cases hqueue : x.queue with
    | nil =>
      obtain ⟨rfl, rfl⟩ : f = g ∧ [] = rest := by simpa [hqueue] using hx
      simp
    | cons y ys =>
      obtain ⟨-, rfl⟩ : y = g ∧ ys ++ [f] = rest := by simpa [hqueue] using hx
      simp [List.getLast?_cons]

theorem State.sendOwn_lane (s : State) (l : Lane) : (s.sendOwn f).lane l = (s.lane l).offered s.dress f := by
  rw [State.sendOwn, State.enqueue_eq, State.enqueue_eq]
  cases l <;> rfl

end

/-- An own CONTRIB of station n, round k, this content and this checksum, whatever its age and CRC. -/
structure QueuedFrame.IsOwnContrib (f : QueuedFrame) (n : Nat) (k checksum : Round) (x : Content) : Prop where
  own : f.source = .own
  whole : f.bytes.length = 24
  addressed : f.bytes.take 4 = [leadContrib, byte n] ++ bytes2 k.toNat
  filled : (f.bytes.drop 6).take 16 = [0#8] ++ x.bytes ++ bytes2 checksum.toNat

theorem contribBytes_isOwnContrib (n : Nat) (k checksum : Round) (x : Content) :
    (⟨.own, contribBytes n k x checksum⟩ : QueuedFrame).IsOwnContrib n k checksum x :=
  ⟨rfl, rfl, rfl, rfl⟩

theorem State.dress_contrib (s : State) (n : Nat) (k checksum : Round) (x : Content) :
    (s.dress ⟨.own, contribBytes n k x checksum⟩).IsOwnContrib n k checksum x := by
  obtain ⟨age, hd⟩ := s.dress_eq ⟨.own, contribBytes n k x checksum⟩
  rw [hd]
  exact ⟨rfl, rfl, rfl, rfl⟩

section
variable {s : State} {n : ScanCounts} {c : Configuration} {k : Round} {row : Row}

theorem State.ownSlotFree_of (ho : s.table.openRow = some row) (hk : row.round = k) (hb : row.body c.station = .empty) :
    s.ownSlotFree c k = true := by
  simp [State.ownSlotFree, ho, hk, hb]

/-- The dress of a frame reads the timer, the clock and the configuration alone (R5, R47). -/
theorem State.dress_congr {t : State} (ht : t.timer = s.timer) (hn : t.now = s.now) (hc : t.life.config = s.life.config) :
    t.dress = s.dress := by
  funext f
  unfold State.dress State.elapsedSince State.sinceLastMark
  rw [ht, hn, hc]

theorem State.ownBuild_placed {i : Tri Int} {q : Quality} {p : Positions} (hfree : s.ownSlotFree c k = true)
    (ho : s.table.openRow = some row) :
    (s.ownBuild c k i q p).table.openRow = some (row.setBody c.station (.filled (s.ownContent i q p) none)) ∧
    (∀ l, (s.ownBuild c k i q p).lane l = (s.lane l).offered s.dress
      ⟨.own, contribBytes c.station k (s.ownContent i q p) (s.life.checksum.getD 0)⟩) := by
  unfold State.ownBuild
  dsimp only
  rw [if_pos hfree]
  refine ⟨by simp [ho], fun l => ?_⟩
  rw [State.sendOwn_lane, State.dress_congr (s := s) rfl rfl rfl]
  rfl

/-- The content that the scan's completion publishes. -/
def State.published (s : State) (c : Configuration) (n : ScanCounts) : Content :=
  s.ownContent (scanCurrents (some c) n) (s.scanComplete n).acquisition.quality s.acquisition.positions

theorem State.scanUnit_ownContent (i : Tri Int) (q : Quality) (p : Positions) :
    (s.scanUnit n).ownContent i q p = s.ownContent i q p := by
  simp [State.ownContent, State.lowestPresent]

/-- A round's scan in JOINING or PRESENT with the own slot free: the contribution is placed and offered to both lanes. -/
theorem State.scanComplete_builds (hc : s.life.config = some c) (hs : s.acquisition.scan = some (.round k))
    (hst : s.life.state.contributing = true) (ho : s.table.openRow = some row) (hk : row.round = k)
    (hb : row.body c.station = .empty) :
    (s.scanComplete n).table.openRow = some (row.setBody c.station (.filled (s.published c n) none)) ∧
    (s.scanComplete n).life = { s.life with pendingRelease := ZoneSet.empty } ∧
    (∀ l, (s.scanComplete n).lane l = (s.lane l).offered s.dress
      ⟨.own, contribBytes c.station k (s.published c n) (s.life.checksum.getD 0)⟩) := by
  have hquality : (s.scanComplete n).acquisition.quality = (s.scanUnit n).acquisition.quality := by
    simp [State.scanComplete_configured hc hs]
  have hpos : (s.scanUnit n).acquisition.positions = s.acquisition.positions := by
    simp [State.scanUnit_acquisition, hc, Acquisition.complete_configured, Acquisition.positions, Acquisition.stored]
  have hfree : (s.scanUnit n).ownSlotFree c k = true := State.ownSlotFree_of (by simpa using ho) hk hb
  have hbuilt : s.scanComplete n = ((s.scanUnit n).ownBuild c k (scanCurrents (some c) n) (s.scanUnit n).acquisition.quality
      (s.scanUnit n).acquisition.positions).handTrip c (scanCurrents (some c) n) (s.scanUnit n).acquisition.quality := by
    rw [State.scanComplete_configured hc hs]
    simp [State.handOn, hst]
  obtain ⟨hopen, hlanes⟩ := State.ownBuild_placed (i := scanCurrents (some c) n) (q := (s.scanUnit n).acquisition.quality)
    (p := (s.scanUnit n).acquisition.positions) hfree (row := row) (by simpa using ho)
  have hcontent : (s.scanUnit n).ownContent (scanCurrents (some c) n) (s.scanUnit n).acquisition.quality
      (s.scanUnit n).acquisition.positions = s.published c n := by
    rw [State.scanUnit_ownContent, hpos, State.published, hquality]
  rw [hcontent] at hopen
  refine ⟨by rw [hbuilt]; exact hopen, by rw [hbuilt]; simp, fun l => ?_⟩
  have hdress : (s.scanUnit n).dress = s.dress := State.dress_congr (by simp) (by simp) (by simp)
  have hlane := hlanes l
  rw [hcontent, hdress, State.lane_eq (s.scanUnit n) s (by simp), (State.scanUnit_frame s n).2.2.2.2.2.2.2.2.2.2.1] at hlane
  rw [hbuilt]
  exact hlane

end

/-- Settles O17: the contribution built fills the own slot and is offered to both out-lanes; its bytes read back give its fields. -/
theorem ownContributionBuilt : Obligations.OwnContributionBuilt := by
  refine ⟨fun n s c k row hp hc hs hst ho hk hb hlen => ?_, fun n k checksum x hn hl hcur =>
    readContrib_contribBytes k checksum hn hl hcur⟩
  obtain ⟨hopen, hlife, hlane⟩ := State.scanComplete_builds (n := n) hc hs hst ho hk hb
  refine ⟨s.scanComplete n, _, s.published c n, exec_scanComplete hp, hopen, hk, rfl, Row.body_setBody_same _ _ _ hlen,
    fun m hm => Row.body_setBody_ne _ _ _ _ hm, hlife, fun l hroom => ?_, fun l hfull => ?_, fun l => ?_⟩
  · rw [hlane, LaneState.offered, if_pos hroom]
    obtain ⟨hlength, hlast⟩ := (s.lane l).joined_last s.dress
      ⟨.own, contribBytes c.station k (s.published c n) (s.life.checksum.getD 0)⟩
    refine ⟨hlength, ?_⟩
    rcases hlast with hlast | hlast
    · obtain ⟨hown, hwhole, haddr, hfill⟩ := contribBytes_isOwnContrib c.station k (s.life.checksum.getD 0) (s.published c n)
      exact ⟨_, hlast, hown, hwhole, haddr, hfill⟩
    · obtain ⟨hown, hwhole, haddr, hfill⟩ := s.dress_contrib c.station k (s.life.checksum.getD 0) (s.published c n)
      exact ⟨_, hlast, hown, hwhole, haddr, hfill⟩
  · rw [hlane, LaneState.offered, if_neg (by omega)]
    exact ⟨rfl, rfl⟩
  · rw [hlane]
    simp

end Sys2Proof.Machine
end

section
/-! PROOFS. A close block by block: which block writes what, and what a block finds (R4, R95, R120, R139). -/

namespace Sys2Proof.Machine

/-! ## The order of the chained blocks -/

/-- The chained blocks in their order. -/
def closeChain : List CloseBlock := [.membership, .replica, .zones, .trip]

/-- In a valid order nothing chained stands before a chained block but what the chain has there. -/
theorem CloseOrder.before_chained {o : CloseOrder} (ho : o.valid = true) {b x : CloseBlock} (hb : b.chained = true)
    (hx : x.chained = true) (h : x ∈ o.takeWhile (· != b)) : x ∈ closeChain.takeWhile (· != b) := by
  have hchain : o.filter CloseBlock.chained = closeChain := by
    simp only [CloseOrder.valid, Bool.and_eq_true, beq_iff_eq] at ho
    obtain ⟨⟨⟨hchain, -⟩, -⟩, -⟩ := ho
    exact hchain
  have hcomm (l : CloseOrder) : (l.takeWhile (· != b)).filter CloseBlock.chained =
      (l.filter CloseBlock.chained).takeWhile (· != b) := by
    induction l with
    | nil => rfl
    | cons y l ih =>
      by_cases hy : y = b
      · subst hy
        simp [hb]
      · have hne : (y != b) = true := by simpa using hy
        rw [List.takeWhile_cons_of_pos (by exact hne)]
        cases hc : y.chained with
        | true => rw [List.filter_cons_of_pos (by exact hc), List.filter_cons_of_pos (by exact hc),
            List.takeWhile_cons_of_pos (by exact hne), ih]
        | false => rw [List.filter_cons_of_neg (by simp [hc]), List.filter_cons_of_neg (by simp [hc]), ih]
  rw [← hchain, ← hcomm]
  exact List.mem_filter.mpr ⟨h, hx⟩

/-- A block that the chain has before another. -/
def blockPrecedes (b d : CloseBlock) : Bool :=
  b.chained && d.chained && b != d && !(closeChain.takeWhile (· != b)).contains d

/-- What stands before the later block of the chain holds the earlier one, once. -/
theorem CloseOrder.split_before {o : CloseOrder} (ho : o.valid = true) {b d : CloseBlock} (h : blockPrecedes b d = true) :
    ∃ mid, b ∉ mid ∧ o.takeWhile (· != d) = o.takeWhile (· != b) ++ b :: mid := by
  simp only [blockPrecedes, Bool.and_eq_true, bne_iff_ne, Bool.not_eq_true', List.contains_eq_mem,
    decide_eq_false_iff_not] at h
  obtain ⟨⟨⟨hb, hd⟩, hne⟩, hchain⟩ := h
  obtain ⟨post, hsplit, hpost⟩ := CloseOrder.split_of_count_eq_one (CloseOrder.count_of_valid ho b)
  have hpre : ∀ x ∈ o.takeWhile (· != b), (x != d) = true := fun x hx => by
    rw [bne_iff_ne]
    rintro rfl
    exact hchain (CloseOrder.before_chained ho hb hd hx)
  refine ⟨post.takeWhile (· != d), fun hmem => hpost ((List.takeWhile_sublist _).mem hmem), ?_⟩
  conv_lhs => rw [hsplit]
  rw [List.takeWhile_append_of_pos hpre, List.takeWhile_cons_of_pos (by simpa using hne)]

/-! ## What a block leaves alone -/

section
variable {α : Type} {s : State} {c : Configuration} {o : CloseOrder} {p : State → α} {b d : CloseBlock}

/-- A block's action leaves this part of the state alone. -/
def BlockKeeps (c : Configuration) (p : State → α) (b : CloseBlock) : Prop :=
  ∀ u : State, u.life.config = some c → p (closeBlock c u b) = p u

/-- Of all blocks one alone writes this part of the state. -/
def OnlyWriter (c : Configuration) (p : State → α) (b : CloseBlock) : Prop := ∀ x, x ≠ b → BlockKeeps c p x

theorem closeBlocks_keep {bs : List CloseBlock} (h : ∀ x ∈ bs, BlockKeeps c p x) (hc : s.life.config = some c) :
    p (bs.foldl (closeBlock c) s) = p s := by
  induction bs generalizing s with
  | nil => rfl
  | cons x bs ih =>
    have hx := h x List.mem_cons_self s hc
    exact (ih (fun y hy => h y (List.mem_cons_of_mem x hy)) (by rw [closeBlock_config, hc])).trans hx

theorem State.rowClosed_config : (s.rowClosed c).life.config = s.life.config := by
  simp [State.rowClosed, State.passTo]

theorem State.closeThrough_config (bs : List CloseBlock) : (s.closeThrough c bs).life.config = s.life.config := by
  rw [State.closeThrough, closeBlocks_config, State.rowClosed_config]

theorem State.closeBefore_config (b : CloseBlock) : (s.closeBefore c o b).life.config = s.life.config :=
  State.closeThrough_config _

/-- A part that every block leaves alone is after a close as the closed row left it. -/
theorem State.closeThrough_kept (hc : s.life.config = some c) (h : ∀ x : CloseBlock, BlockKeeps c p x) (bs : List CloseBlock) :
    p (s.closeThrough c bs) = p (s.rowClosed c) :=
  closeBlocks_keep (fun x _ => h x) (by rw [State.rowClosed_config, hc])

/-- What one block alone writes is after a close as that block left it. -/
theorem State.closeThrough_written (hc : s.life.config = some c) (ho : o.valid = true) (h : OnlyWriter c p b) :
    p (s.closeThrough c o) = p (closeBlock c (s.closeBefore c o b) b) := by
  obtain ⟨post, hpost, hsplit⟩ := s.closeThrough_split c ho b
  rw [hsplit]
  exact closeBlocks_keep (fun x hx => h x fun hxb => hpost (hxb ▸ hx)) (by rw [closeBlock_config, State.closeBefore_config, hc])

/-- A block finds what it alone writes as the closed row left it. -/
theorem State.closeBefore_unwritten (hc : s.life.config = some c) (h : OnlyWriter c p b) :
    p (s.closeBefore c o b) = p (s.rowClosed c) := by
  refine closeBlocks_keep (fun x hx => h x ?_) (by rw [State.rowClosed_config, hc])
  simpa using List.mem_takeWhile_imp hx

/-- A block finds what an earlier block of the chain alone writes as it is after the close. -/
theorem State.closeBefore_written (hc : s.life.config = some c) (ho : o.valid = true) (h : OnlyWriter c p b)
    (hbd : blockPrecedes b d = true) : p (s.closeBefore c o d) = p (s.closeThrough c o) := by
  obtain ⟨mid, hmid, hsplit⟩ := CloseOrder.split_before ho hbd
  rw [State.closeThrough_written hc ho h, State.closeBefore, State.closeThrough, hsplit, List.foldl_append, List.foldl_cons]
  exact closeBlocks_keep (fun x hx => h x fun hxb => hmid (hxb ▸ hx))
    (by rw [closeBlock_config, closeBlocks_config, State.rowClosed_config, hc])

end

/-! ## A close point that is due -/

section
variable {s : State} {c : Configuration} {o : CloseOrder}

theorem State.closes.config (h : s.closes c o) : s.life.config = some c := h.2.1

theorem State.closes.valid (h : s.closes c o) : o.valid = true := h.2.2.2

end

/-! ## Who writes what -/

section
variable (c : Configuration)

theorem replica_writes : OnlyWriter c State.replica .replica := fun x hx u _ => by
  cases x with
  | replica => contradiction
  | health | membership | zones | trip | timer | controller => simp [closeBlock]

theorem zones_writes : OnlyWriter c State.zones .zones := fun _ hx u _ => closeBlock_zones c u hx

theorem timer_writes : OnlyWriter c State.timer .timer := fun x hx u _ => by
  cases x with
  | timer => contradiction
  | health | membership | replica | zones | trip | controller => simp [closeBlock]

theorem controller_writes_life : OnlyWriter c State.life .controller := fun x hx u _ => by
  cases x with
  | controller => contradiction
  | health | membership | replica | zones | trip | timer => simp [closeBlock]

end

/-! ## Entries -/

section
variable {s : State} {m n : Nat} {f : Entry → Entry}

theorem State.entry_mapEntry (hf : ∀ e, (f e).station = e.station) :
    (s.mapEntry m f).entry n = (s.entry n).map fun e => if e.station == m then f e else e := by
  simp only [State.entry, State.mapEntry_entries, List.find?_map]
  congr 2
  funext e
  dsimp only [Function.comp_apply]
  split <;> simp [hf]

theorem State.entry_mapEntry_ne (hf : ∀ e, (f e).station = e.station) (h : n ≠ m) : (s.mapEntry m f).entry n = s.entry n := by
  rw [State.entry_mapEntry hf]
  cases he : s.entry n with
  | none => rfl
  | some e => simp [State.entry_station he, h]

theorem State.entry_mapEntry_same (hf : ∀ e, (f e).station = e.station) : (s.mapEntry n f).entry n = (s.entry n).map f := by
  rw [State.entry_mapEntry hf]
  cases he : s.entry n with
  | none => rfl
  | some e => simp [State.entry_station he]

theorem State.entry_congr {t : State} (h : t.membership = s.membership) (n : Nat) : t.entry n = s.entry n := by
  rw [State.entry, h]; rfl

/-- A change of the station state in the entries (R89). -/
theorem State.enter_entry (new : StationState) (gs : List (List Draft)) : (s.enter new gs).entry n =
    (s.entry n).map fun e => if e.station == s.ownNumber then { e with state := ownEntryState new } else e := by
  rw [State.entry_congr (State.enter_membership (s := s) (new := new) gs)]
  exact State.entry_mapEntry (f := fun e => { e with state := ownEntryState new }) fun _ => rfl

/-- A change of the station state leaves the entries of other numbers alone (R89). -/
theorem State.entry_enter (new : StationState) (gs : List (List Draft)) (h : n ≠ s.ownNumber) :
    (s.enter new gs).entry n = s.entry n := by
  rw [State.enter_entry]
  cases he : s.entry n with
  | none => rfl
  | some e => simp [State.entry_station he, h]

/-- A change of the station state leaves what an entry closed the row with alone (R81). -/
theorem State.closing_enter (new : StationState) (gs : List (List Draft)) :
    ((s.enter new gs).entry n).map Entry.closing = (s.entry n).map Entry.closing := by
  rw [State.enter_entry, Option.map_map]
  congr 1
  funext e
  dsimp only [Function.comp_apply]
  split <;> rfl

end

theorem closingPresent_eq (u : State) (n : Nat) : closingPresent u.membership.entries n =
    (((u.entry n).map Entry.closing).map fun x => x.state == .present).getD false := by
  unfold closingPresent State.entry
  cases u.membership.entries.find? (fun e => e.station == n) <;> rfl

section
variable (c : Configuration)

/-- The entry of another station's number: the Controller changes the own one alone (R89). -/
theorem membership_writes_entry {n : Nat} (hn : n ≠ c.station) : OnlyWriter c (fun u => u.entry n) .membership := by
  intro x hx u hc
  have hown (y : LifeCycle) (hy : y.config = u.life.config) : n ≠ ({ u with life := y } : State).ownNumber := by
    rw [State.ownNumber_configured (c := c) (hy.trans hc)]
    exact hn
  cases x with
  | membership => contradiction
  | controller =>
    obtain ⟨y, -, hy, ht | ⟨-, r, ht⟩ | ⟨-, ht⟩⟩ := u.controllerClose_cases c <;> simp only [closeBlock, ht]
    · rfl
    · exact State.entry_enter (s := { u with life := y, ring := { one := u.ring.one.dropOwn, two := u.ring.two.dropOwn } }) _ _ (hown y hy)
    · exact State.entry_enter (s := { u with life := { y with joinCount := 0, conflictCount := 0 } }) _ _ (hown _ hy)
  | health | replica | zones | trip | timer => exact State.entry_congr (by simp [closeBlock]) n

/-- What each entry closed the row with (R81). -/
theorem membership_writes_closing (n : Nat) : OnlyWriter c (fun u => (u.entry n).map Entry.closing) .membership := by
  intro x hx u _
  cases x with
  | membership => contradiction
  | controller =>
    obtain ⟨y, -, -, ht | ⟨-, r, ht⟩ | ⟨-, ht⟩⟩ := u.controllerClose_cases c <;> simp only [closeBlock, ht]
    · rfl
    · exact State.closing_enter _ _
    · exact State.closing_enter _ _
  | health | replica | zones | trip | timer =>
    exact congrArg (Option.map Entry.closing) (State.entry_congr (by simp [closeBlock]) n)

end

/-! ## The closed row -/

section
variable {s : State} {c : Configuration} {o : CloseOrder} {row : Row}

theorem State.closeThrough_table (h : s.table.openRow = some row) (bs : List CloseBlock) :
    (s.closeThrough c bs).table =
      { s.table with openRow := some (Row.fresh (row.round + 1)), newest := some row, older := s.table.newest, settling := false } := by
  simp [State.closeThrough, State.rowClosed, State.passTo, RoundTable.close, h]

end

end Sys2Proof.Machine
end

section
/-! PROOFS. What a close point does in the Round Table, the Round Timer, the Membership Table and the Replica Unit (R4, R9, R68, R77 to
R80, R95, R101, R110). -/

namespace Sys2Proof.Machine

section
variable {s : State} {c : Configuration} {o : CloseOrder} {row : Row}

/-! ## A close that is due -/

theorem State.closeDue_iff (hc : s.life.config = some c) : s.closeDue = true ↔ s.closeAhead = true ∧ s.timer.phase ≤ c.close := by
  simp [State.closeDue, State.closePhase, hc]

/-- A close that is due finds a row open and a NUMBERED timer short of the close point (R4). -/
theorem State.closes_numbered (h : s.closes c o) :
    s.timer.mode = .numbered ∧ s.timer.phase ≤ c.close ∧ ∃ row, s.table.openRow = some row := by
  obtain ⟨-, hc, hdue, -⟩ := h
  obtain ⟨hahead, hphase⟩ := (State.closeDue_iff hc).mp hdue
  simp only [State.closeAhead, Bool.and_eq_true, beq_iff_eq] at hahead
  obtain ⟨⟨hnumbered, -⟩, hopen⟩ := hahead
  refine ⟨hnumbered, hphase, ?_⟩
  cases hrow : s.table.openRow with
  | none => simp [hrow] at hopen
  | some row => exact ⟨row, rfl⟩

theorem State.rowClosed_phase (h : s.closes c o) : (s.rowClosed c).timer.phase = c.close := by
  obtain ⟨hmode, hphase, -⟩ := State.closes_numbered h
  simp only [State.rowClosed, State.passTo_timer, hmode]
  simp
  omega

/-- A command for what a close brings about is that close. -/
theorem State.closeBrings_of (h : s.closes c o) {test : Configuration → Bool} (ht : test c = true) :
    s.closeBrings o test = true := by
  obtain ⟨-, hc, hdue, hvalid⟩ := h
  simp [State.closeBrings, hc, hdue, hvalid, ht]

theorem State.closePoint_of (h : s.closes c o) : s.closePoint o = s.closeThrough c o := by
  obtain ⟨-, hc, hdue, hvalid⟩ := h
  simp [State.closePoint, hc, hdue, hvalid]

/-- A live command that is the close when the close brings something about. -/
theorem live_closePoint (h : s.closes c o) {test : State → Bool} (ht : test s = true) :
    live s (fun u => if test u then u.closePoint o else u) = .next (s.closeThrough c o) := by
  rw [live_powered h.1]
  simp only [ht, if_true, State.closePoint_of h]

/-- Every block keeps this of the state. -/
theorem closeBlocks_preserve {P : State → Prop} (h : ∀ u b, P u → P (closeBlock c u b)) {u : State} (bs : List CloseBlock)
    (hu : P u) : P (bs.foldl (closeBlock c) u) := by
  induction bs generalizing u with
  | nil => exact hu
  | cons b bs ih => exact ih (h u b hu)

/-! ## Rows, timer and lanes -/

theorem closeBlock_keeps_clock (b : CloseBlock) :
    BlockKeeps c (fun u => (u.timer.mode, u.timer.round, u.timer.history, u.timer.phase)) b := by
  intro u _
  cases b with
  | timer =>
    simp only [closeBlock, State.timerClose]
    repeat' split
    all_goals rfl
  | health | membership | replica | zones | trip | controller => simp [closeBlock]

theorem LaneState.health_frame (x : LaneState) (c : Configuration) : (x.health c).receiver = x.receiver ∧
    (x.health c).queue = x.queue ∧ (x.health c).transmitter = x.transmitter ∧ (x.health c).clearPending = x.clearPending ∧
    (x.health c).counters = x.counters := by
  unfold LaneState.health
  dsimp only
  repeat' split
  all_goals exact ⟨rfl, rfl, rfl, rfl, rfl⟩

/-- A lane that comes UP at this check point (R49). -/
def LaneState.rises (c : Configuration) (x : LaneState) : Bool := !x.up && (x.health c).up

theorem State.clearPartner_lane (s : State) (m l : Lane) (old : LaneState) : (s.clearPartner m old).lane l =
    if l = partner m ∧ (!old.up && (s.lane m).up) = true then (s.lane l).cleared else s.lane l := by
  unfold State.clearPartner
  split
  · rename_i hup
    rw [State.requestClear_eq, State.lane_setLane]
    by_cases hl : l = partner m <;> simp [hl, hup]
  · rename_i hup
    simp [hup]

/-- A lane at a check point: its health, and the line clear that its partner asks for on coming UP (R49). -/
theorem State.checkHealth_lane (s : State) (c : Configuration) (l : Lane) : (s.checkHealth c).lane l =
    if (s.lane (partner l)).rises c = true then ((s.lane l).health c).cleared else (s.lane l).health c := by
  rw [State.checkHealth, State.clearPartner_lane, State.clearPartner_lane, State.clearPartner_lane]
  cases l <;> simp [partner, State.mapLane, State.setLane, LaneState.rises, State.lane, Ring.lane, Ring.setLane,
    apply_ite LaneState.up]

/-- The cut of an out-lane's queue on entry to EXCLUDED leaves the rest of the lane (R52). -/
theorem LaneState.dropOwn_frame (x : LaneState) : x.dropOwn.receiver = x.receiver ∧ x.dropOwn.transmitter = x.transmitter ∧
    x.dropOwn.clearPending = x.clearPending ∧ x.dropOwn.up = x.up ∧ x.dropOwn.silentRun = x.silentRun ∧
    x.dropOwn.liveRun = x.liveRun ∧ x.dropOwn.goodSeen = x.goodSeen ∧ x.dropOwn.counters = x.counters := by
  unfold LaneState.dropOwn
  split <;> exact ⟨rfl, rfl, rfl, rfl, rfl, rfl, rfl, rfl⟩

/-- The Controller leaves each lane at a close, or cuts its queue (R52). -/
theorem State.controllerClose_lane (s : State) (c : Configuration) :
    (∀ l, (s.controllerClose c).lane l = s.lane l) ∨ ∀ l, (s.controllerClose c).lane l = (s.lane l).dropOwn := by
  obtain ⟨y, -, -, ht | ⟨-, r, ht⟩ | ⟨-, ht⟩⟩ := s.controllerClose_cases c
  · exact .inl fun l => State.lane_eq _ _ (by rw [ht]) l
  · refine .inr fun l => ?_
    rw [ht, State.lane_eq _ { s with ring := { one := s.ring.one.dropOwn, two := s.ring.two.dropOwn } } (by simp [State.exclude])]
    cases l <;> rfl
  · exact .inl fun l => State.lane_eq _ _ (by rw [ht]; simp [State.promote]) l

/-- The Ring Interface and the Controller alone touch the lanes at a close. -/
theorem closeBlock_lane (u : State) {b : CloseBlock} (hhealth : b ≠ .health) (hcontroller : b ≠ .controller) (l : Lane) :
    (closeBlock c u b).lane l = u.lane l := by
  refine State.lane_eq _ _ ?_ l
  cases b with
  | health | controller => contradiction
  | membership | replica | zones | trip | timer => simp [closeBlock]

theorem State.rowClosed_lane (s : State) (c : Configuration) (l : Lane) : (s.rowClosed c).lane l = s.lane l :=
  State.lane_eq _ _ (by simp) l

/-- Reception and counters are no block's business at a close. -/
theorem closeBlock_keeps_reception (l : Lane) (b : CloseBlock) :
    BlockKeeps c (fun u => ((u.lane l).receiver, (u.lane l).counters)) b := by
  intro u _
  cases b with
  | health =>
    have hlane : (closeBlock c u .health).lane l = (u.checkHealth c).lane l :=
      State.lane_eq _ _ (by simp [closeBlock, State.healthClose]) l
    obtain ⟨hreceiver, -, -, -, hcounters⟩ := (u.lane l).health_frame c
    simp only [hlane, State.checkHealth_lane]
    split <;> simp [hreceiver, hcounters]
  | controller =>
    obtain ⟨hreceiver, -, -, -, -, -, -, hcounters⟩ := (u.lane l).dropOwn_frame
    rcases u.controllerClose_lane c with hlane | hlane
    · simp only [closeBlock, hlane]
    · simp only [closeBlock, hlane, hreceiver, hcounters]
  | membership | replica | zones | trip | timer => beta_reduce; rw [closeBlock_lane u (by decide) (by decide)]

end

/-- Settles O18: the Round Table turns its rows before any block acts, and no block touches what the statement says is kept. -/
theorem closeTurnsRows : Obligations.CloseTurnsRows := by
  intro o s c row h hrow
  obtain ⟨hp, hc, hdue, hvalid⟩ := h
  have htable := State.closeThrough_table (c := c) hrow o
  have hclock := State.closeThrough_kept (s := s) hc closeBlock_keeps_clock o
  simp only [Prod.mk.injEq] at hclock
  obtain ⟨hmode, hround, hhistory, hphase⟩ := hclock
  have hlink : (s.closeThrough c o).link = s.link.atTime (s.now + (c.close - s.timer.phase)) := by
    simp only [State.closeThrough, closeBlocks_frame]
    rfl
  obtain ⟨-, hreceiver, hcounters, -⟩ := s.link.atTime_frame (s.now + (c.close - s.timer.phase))
  refine ⟨s.closeThrough c o, exec_closePoint ⟨hp, hc, hdue, hvalid⟩, by rw [htable], by rw [htable], by rw [htable],
    by rw [htable], by rw [htable], hmode, hround, hhistory, hphase.trans (State.rowClosed_phase ⟨hp, hc, hdue, hvalid⟩),
    by simp, by simp, by rw [hlink, hreceiver], by rw [hlink, hcounters], State.closeThrough_config o, fun l => ?_⟩
  have hlane := State.closeThrough_kept (s := s) hc (closeBlock_keeps_reception l) o
  simpa [State.rowClosed_lane] using hlane

/-! ## The pull-in -/

section
variable {s : State} {c : Configuration} {o : CloseOrder} {row : Row}

/-- At a close the station stays in JOINING, PRESENT or LEAVING, or enters EXCLUDED, which it does not leave (R163, R164, R168). -/
theorem closeBlock_state (u : State) (b : CloseBlock) : (closeBlock c u b).life.state = u.life.state ∨
    u.life.state.contributing = true ∧ (closeBlock c u b).life.state = .excluded ∨
    u.life.state = .joining ∧ (closeBlock c u b).life.state = .present := by
  cases b with
  | controller =>
    obtain ⟨y, hy, -, ht | ⟨hst, r, ht⟩ | ⟨hst, ht⟩⟩ := u.controllerClose_cases c
    · exact .inl (by rw [closeBlock, ht]; exact hy)
    · exact .inr (.inl ⟨hst, by rw [closeBlock, ht]; simp⟩)
    · exact .inr (.inr ⟨hst, by rw [closeBlock, ht]; simp⟩)
  | health | membership | replica | zones | trip | timer => exact .inl (by simp [closeBlock])

theorem closeBlock_stays_excluded (u : State) (b : CloseBlock) (h : u.life.state = .excluded) :
    (closeBlock c u b).life.state = .excluded := by
  rcases closeBlock_state (c := c) u b with hstate | ⟨hst, -⟩ | ⟨hst, -⟩
  · rw [hstate, h]
  · simp [h, StationState.contributing] at hst
  · simp [h] at hst

theorem closeBlock_stays_working (u : State) (b : CloseBlock) (h : u.life.state.working = true ∨ u.life.state = .excluded) :
    (closeBlock c u b).life.state.working = true ∨ (closeBlock c u b).life.state = .excluded := by
  rcases closeBlock_state (c := c) u b with hstate | ⟨-, hstate⟩ | ⟨-, hstate⟩
  · rwa [hstate]
  · exact .inr hstate
  · exact .inl (by rw [hstate]; rfl)

/-- A working station that is not excluded at the close is working when any block acts. -/
theorem State.closeBefore_working (ho : o.valid = true) (hw : s.life.state.working = true)
    (hx : (s.closeThrough c o).life.state ≠ .excluded) (b : CloseBlock) : (s.closeBefore c o b).life.state.working = true := by
  have hclosed : (s.rowClosed c).life.state.working = true ∨ (s.rowClosed c).life.state = .excluded := .inl (by simpa using hw)
  rcases closeBlocks_preserve closeBlock_stays_working (o.takeWhile (· != b)) hclosed with h | h
  · exact h
  · obtain ⟨post, -, hsplit⟩ := s.closeThrough_split c ho b
    refine (hx ?_).elim
    rw [hsplit]
    exact closeBlocks_preserve closeBlock_stays_excluded post (closeBlock_stays_excluded _ _ h)

theorem State.timerClose_pulls {lead : Int} (hn : s.table.newest = some row) (hw : s.life.state.working = true)
    (hl : largestLead (row.slots.filterMap slotLead) = some lead) (h2 : 2 < lead) :
    (s.timerClose c).timer.pendingAdjustment = some (min lead 25).toNat ∧
    (s.timerClose c).timer.roundLength = c.period - (min lead 25).toNat := by
  simp [State.timerClose, hn, hw, hl, pullIn, h2]

theorem State.timerClose_keeps (hn : s.table.newest = some row)
    (hl : ∀ x, largestLead (row.slots.filterMap slotLead) = some x → x ≤ 2) : s.timerClose c = s := by
  have hnone : pullIn (largestLead (row.slots.filterMap slotLead)) = none := by
    cases hlead : largestLead (row.slots.filterMap slotLead) with
    | none => rfl
    | some x => simp [pullIn, Int.not_lt.mpr (hl x hlead)]
  simp [State.timerClose, hn, hnone]

end

/-- Settles O19: the Round Timer alone writes the timer, from the closed row and the station state it finds. -/
theorem closePullsIn : Obligations.ClosePullsIn := by
  intro o s c row h hrow hw
  obtain ⟨hp, hc, hdue, hvalid⟩ := h
  have htimer := State.closeThrough_written hc hvalid (timer_writes c)
  have hnewest := State.closeBefore_newest (c := c) (o := o) hrow .timer
  refine ⟨s.closeThrough c o, exec_closePoint ⟨hp, hc, hdue, hvalid⟩, fun x hl h2 hx => ?_, fun hl => ?_⟩
  · rw [htimer]
    exact State.timerClose_pulls hnewest (State.closeBefore_working hvalid hw hx .timer) hl h2
  · have hfound := State.closeBefore_unwritten (o := o) hc (timer_writes c)
    have hkept : (closeBlock c (s.closeBefore c o .timer) .timer).timer = (s.closeBefore c o .timer).timer := by
      rw [closeBlock, State.timerClose_keeps hnewest hl]
    rw [htimer, hkept, hfound]
    exact ⟨rfl, rfl⟩

end Sys2Proof.Machine
end


section
/-! PROOFS. The closing entries and the replica formed from them (R77 to R81, R86, R87, R93 to R112). -/

namespace Sys2Proof.Machine

/-! ## A peer entry at the close -/

section
variable {s : State} {c : Configuration} {o : CloseOrder} {row : Row} {n : Nat} {e : Entry}

theorem Entry.close_peer (st : StationState) (h : e.station ≠ c.station) :
    e.close c st row = (e.peerStep c (e.heard row)).settleRow c false row := by
  rw [Entry.close, if_neg h]

theorem Entry.peerStep_joins (hj : e.state = .joining) (hrun : c.joinRounds ≤ e.joinRun + 1) :
    e.peerStep c true = { e with state := .present, joinRun := 0, missRun := 0 } := by
  simp [Entry.peerStep, hj, hrun]

theorem Entry.peerStep_loses (hpres : e.state = .present) (hrun : c.lostRounds ≤ e.missRun + 1) :
    e.peerStep c false = { e with state := .lost, missRun := 0, joinRun := 0 } := by
  simp [Entry.peerStep, hpres, hrun]

theorem State.membershipClose_entry (hn : s.table.newest = some row) (n : Nat) :
    (s.membershipClose c).entry n = (s.entry n).map (Entry.close c s.life.state row) := by
  have hstation : (fun e : Entry => e.station == n) ∘ Entry.close c s.life.state row = fun e => e.station == n := by
    funext e
    simp [Entry.close_station]
  simp only [State.membershipClose, hn, State.entry, State.offerAll_frame, List.find?_map, hstation]

/-- What a close makes of a peer entry, with the state before the Membership Table acts still holding it as it was. -/
theorem State.closeThrough_peer (h : s.closes c o) (hrow : s.table.openRow = some row) (hn : n ≠ c.station)
    (he : s.entry n = some e) : (s.closeBefore c o .membership).entry n = some e ∧
    ((s.closeBefore c o .membership).membershipClose c).entry n =
      some ((e.peerStep c (e.heard row)).settleRow c false row) ∧
    (s.closeThrough c o).entry n = some ((e.peerStep c (e.heard row)).settleRow c false row) := by
  obtain ⟨-, hc, -, hvalid⟩ := h
  have hbefore := State.closeBefore_unwritten (s := s) (o := o) hc (membership_writes_entry c hn)
  have hfound : (s.closeBefore c o .membership).entry n = some e :=
    (hbefore.trans (State.entry_congr (by simp) n)).trans he
  have hpeer : e.station ≠ c.station := by rw [State.entry_station he]; exact hn
  have hclosed : ((s.closeBefore c o .membership).membershipClose c).entry n =
      some ((e.peerStep c (e.heard row)).settleRow c false row) := by
    rw [State.membershipClose_entry (State.closeBefore_newest hrow .membership), hfound, Option.map_some, Entry.close_peer _ hpeer]
  exact ⟨hfound, hclosed, (State.closeThrough_written hc hvalid (membership_writes_entry c hn)).trans hclosed⟩

theorem entryGoes_of {old new : EntryState} {t : State} {e' : Entry} (hn : n ≠ c.station) (he : s.entry n = some e)
    (hold : e.state = old) (he' : t.entry n = some e') (hnew : e'.state = new) : entryGoes c n old new s t = true := by
  simp [entryGoes, State.entryState, hn, he, he', hold, hnew]

end

/-- Settles O20: the update of a heard JOINING or an unheard PRESENT peer entry whose run is full. -/
theorem peerBecomesPresentOrLost : Obligations.PeerBecomesPresentOrLost := by
  refine ⟨fun n o s c row e h hrow hn he hstate hheard hrun => ?_, fun n o s c row e h hrow hn he hstate hheard hrun => ?_⟩
  · obtain ⟨hfound, hclosed, hthrough⟩ := State.closeThrough_peer h hrow hn he
    rw [hheard, Entry.peerStep_joins hstate hrun] at hclosed hthrough
    refine ⟨s.closeThrough c o, _, live_closePoint h (test := fun u => u.bringsPresent n o) ?_, hthrough, rfl, rfl, rfl, rfl, rfl,
      by rw [State.closeThrough_table hrow]⟩
    exact State.closeBrings_of h (entryGoes_of hn hfound hstate hclosed rfl)
  · obtain ⟨hfound, hclosed, hthrough⟩ := State.closeThrough_peer h hrow hn he
    rw [hheard, Entry.peerStep_loses hstate hrun] at hclosed hthrough
    refine ⟨s.closeThrough c o, _, live_closePoint h (test := fun u => u.bringsLost n o) ?_, hthrough, rfl, rfl, rfl, rfl,
      by rw [State.closeThrough_table hrow]⟩
    exact State.closeBrings_of h (entryGoes_of hn hfound hstate hclosed rfl)

/-! ## The records of a replica -/

section
variable {s : State} {c : Configuration} {o : CloseOrder} {row : Row} {n : Nat} {e : Entry}

theorem recordOf_map (c : Configuration) (merged : Bool) (u : State) (n : Nat) :
    recordOf (u.membership.entries.map (Entry.record c merged)) n = (u.entry n).map (Entry.record c merged) := by
  rw [recordOf, List.find?_map]
  rfl

/-- The replica that a close forms, from the entries its unit finds. -/
theorem State.closeThrough_replica (h : s.closes c o) (hrow : s.table.openRow = some row) :
    (s.closeBefore c o .replica).replica.held = s.replica.held ∧
    (closeBlock c (s.closeBefore c o .replica) .replica).replica =
      { held := formReplica c row.round (s.closeBefore c o .replica).membership.entries, previous := s.replica.held } ∧
    (s.closeThrough c o).replica =
      { held := formReplica c row.round (s.closeBefore c o .replica).membership.entries, previous := s.replica.held } := by
  obtain ⟨-, hc, -, hvalid⟩ := h
  have hfound : (s.closeBefore c o .replica).replica = s.replica :=
    (State.closeBefore_unwritten hc (replica_writes c)).trans (by simp)
  have hformed : (closeBlock c (s.closeBefore c o .replica) .replica).replica =
      { held := formReplica c row.round (s.closeBefore c o .replica).membership.entries, previous := s.replica.held } := by
    simp only [closeBlock, State.replicaClose, State.closeBefore_newest hrow, State.offerAll_frame, hfound]
  exact ⟨by rw [hfound], hformed, (State.closeThrough_written hc hvalid (replica_writes c)).trans hformed⟩

theorem formReplica_recordOf (u : State) (round : Round) (he : u.entry n = some e) :
    recordOf (formReplica c round u.membership.entries).records n =
      some (e.record c (mergedBy u.membership.entries)) := by
  simp only [formReplica, recordOf_map, he, Option.map_some]

theorem Entry.record_released (merged : Bool) (hk : e.kind ≠ .feeder) (hrun : e.openRun = c.endzoneRounds) :
    (e.record c merged).released = true ∧ (e.record c merged).counted = false := by
  simp [Entry.record, Entry.releasedAt, hk, hrun]

theorem formReplica_stuckIn (round : Round) (u : State) (he : u.entry n = some e) (bus : Bus)
    (ha : bus = .a → e.indefiniteA = c.runLimit) (hb : bus = .b → e.indefiniteB = c.runLimit) :
    (formReplica c round u.membership.entries).stuckIn n bus = true := by
  simp only [Replica.stuckIn, formReplica_recordOf u round he]
  cases bus with
  | a => simp [Entry.record, ha rfl]
  | b => simp [Entry.record, hb rfl]

end

/-- Settles O21: the record of an entry whose run is full is RELEASED or STUCK in the replica formed. -/
theorem couplerReleasedOrIsolatorStuck : Obligations.CouplerReleasedOrIsolatorStuck := by
  refine ⟨fun n o s c e h he hk hrun hheld => ?_, fun n bus o s c e h he ha hb hheld => ?_⟩
  · obtain ⟨-, -, row, hrow⟩ := State.closes_numbered h
    obtain ⟨hfound, hformed, hthrough⟩ := State.closeThrough_replica h hrow
    have hrecord := formReplica_recordOf (c := c) _ row.round he
    obtain ⟨hreleased, hcounted⟩ := Entry.record_released (mergedBy (s.closeBefore c o .replica).membership.entries) hk hrun
    refine ⟨s.closeThrough c o, _, live_closePoint h (test := fun u => u.bringsRelease n o) ?_, by rw [hthrough]; exact hrecord,
      hreleased, hcounted, by rw [hthrough]⟩
    refine State.closeBrings_of h ?_
    have hafter : (closeBlock c (s.closeBefore c o .replica) .replica).replica.held.releasedIn n = true := by
      simp only [hformed, Replica.releasedIn, hrecord, hreleased]
    simp only [hfound, hheld, Bool.not_false, Bool.true_and]
    exact hafter
  · obtain ⟨-, -, row, hrow⟩ := State.closes_numbered h
    obtain ⟨hfound, hformed, hthrough⟩ := State.closeThrough_replica h hrow
    have hstuck := formReplica_stuckIn row.round _ he bus ha hb
    refine ⟨s.closeThrough c o, live_closePoint h (test := fun u => u.bringsStuck n bus o) ?_, by rw [hthrough]; exact hstuck,
      by rw [hthrough]⟩
    refine State.closeBrings_of h ?_
    have hafter : (closeBlock c (s.closeBefore c o .replica) .replica).replica.held.stuckIn n bus = true := by
      rw [hformed]; exact hstuck
    simp only [hfound, hheld, Bool.not_false, Bool.true_and]
    exact hafter

end Sys2Proof.Machine
end

section
/-! PROOFS. The replica of a row: mode, records and member sets (R93 to R112). -/

namespace Sys2Proof.Machine

/-! ## Connections and mode -/

section
variable (c : Configuration) (e : Entry) (merged : Bool)

/-- An isolator that is not OPEN, or a station without a status, is connected (R97). -/
theorem connectsA_iff : connectsA e.positions = true ↔ ∀ b, e.closing.rowStatus = some b → b.positions.isoA ≠ .opened := by
  unfold connectsA Entry.positions
  cases e.closing.rowStatus <;> simp [DoubleBit.connects]

theorem connectsB_iff : connectsB e.positions = true ↔ ∀ b, e.closing.rowStatus = some b → b.positions.isoB ≠ .opened := by
  unfold connectsB Entry.positions
  cases e.closing.rowStatus <;> simp [DoubleBit.connects]

theorem mergedBy_iff (es : List Entry) : mergedBy es = true ↔
    ∃ e ∈ es, e.kind = .feeder ∧ connectsA e.positions = true ∧ connectsB e.positions = true := by
  simp [mergedBy, Entry.joinsBusbars, and_assoc]

/-! ## Records -/

theorem Entry.record_coupler_zones (h : e.kind ≠ .feeder) : (e.record c merged).tripZones =
    { a := (e.record c merged).connectedA, b := (e.record c merged).connectedB } := by
  unfold Entry.record tripZonesOf
  cases hk : e.kind with
  | feeder => exact (h hk).elim
  | coupler p => rfl

theorem Entry.record_feeder_split (h : e.kind = .feeder) : (e.record c false).tripZones =
    { a := (e.record c false).connectedA && !(e.record c false).connectedB,
      b := (e.record c false).connectedB && !(e.record c false).connectedA } := by
  simp [Entry.record, tripZonesOf, h]

theorem Entry.record_feeder_merged (h : e.kind = .feeder) : (e.record c true).tripZones =
    { a := (e.record c true).connectedA || (e.record c true).connectedB,
      b := (e.record c true).connectedA || (e.record c true).connectedB } := by
  simp only [Entry.record, tripZonesOf, h]
  cases connectsA e.positions <;> cases connectsB e.positions <;> rfl

end

/-! ## Member sets -/

section
variable {records : List StationRecord} {merged : Bool} {z : Zone} {n : Nat} {p : Polarity} {x : StationRecord}

theorem mem_memberSet (m : Member) : m ∈ memberSet records merged z ↔
    m.station < 40 ∧ ∃ x, recordOf records m.station = some x ∧ x.memberSign merged z = some m.sign := by
  simp only [memberSet, List.mem_filterMap, List.mem_range]
  constructor
  · rintro ⟨n, hn, hm⟩
    split at hm
    · rename_i x hx
      obtain ⟨p, hp, rfl⟩ := Option.map_eq_some_iff.mp hm
      exact ⟨hn, x, hx, hp⟩
    · cases hm
  · rintro ⟨hn, x, hx, hp⟩
    refine ⟨m.station, hn, ?_⟩
    simp [hx, hp]

theorem mem_memberSet_of_record (hn : n < 40) (hx : recordOf records n = some x) :
    ({ station := n, sign := p } : Member) ∈ memberSet records merged z ↔ x.memberSign merged z = some p := by
  rw [mem_memberSet]
  simp [hn, hx]

/-- A member set ascends by station number (R106). -/
theorem memberSet_ascends (records : List StationRecord) (merged : Bool) (z : Zone) :
    ((memberSet records merged z).map Member.station).Pairwise (· < ·) := by
  rw [List.pairwise_map, memberSet, List.pairwise_filterMap]
  refine List.pairwise_lt_range.imp fun {m n} hmn a ha b hb => ?_
  have hstation (n : Nat) (a : Member) (h : (match recordOf records n with
      | some r => (r.memberSign merged z).map (fun p => ({ station := n, sign := p } : Member))
      | none => none) = some a) : a.station = n := by
    split at h
    · obtain ⟨p, -, rfl⟩ := Option.map_eq_some_iff.mp h
      rfl
    · cases h
  rw [hstation m a ha, hstation n b hb]
  exact hmn

theorem StationRecord.sign_a : x.memberSign merged .a = some p ↔
    x.kind = .feeder ∧ p = .plus ∧ x.connectedA = true ∧ (merged = true ∨ x.connectedB = false) ∨
    x.kind = .feeder ∧ p = .plus ∧ x.connectedB = true ∧ merged = true ∨
    ∃ q, x.kind = .coupler q ∧ p ≠ q ∧ x.counted = true ∧ merged = false := by
  unfold StationRecord.memberSign
  cases x.kind with
  | feeder =>
    cases x.connectedA with
    | false | true => cases merged <;> cases p <;> simp
  | coupler q => cases merged <;> cases p <;> cases q <;> simp [negate]

theorem StationRecord.sign_b : x.memberSign merged .b = some p ↔
    x.kind = .feeder ∧ p = .plus ∧ x.connectedB = true ∧ (merged = true ∨ x.connectedA = false) ∨
    x.kind = .feeder ∧ p = .plus ∧ x.connectedA = true ∧ merged = true ∨
    x.kind = .coupler p ∧ x.counted = true ∧ merged = false := by
  unfold StationRecord.memberSign
  cases x.kind with
  | feeder =>
    cases x.connectedA with
    | false | true => cases merged <;> cases p <;> simp
  | coupler q => cases merged <;> simp [and_comm]

theorem StationRecord.sign_cz : x.memberSign merged .cz = some p ↔
    x.kind = .feeder ∧ p = .plus ∧ (x.connectedA = true ∨ x.connectedB = true) := by
  unfold StationRecord.memberSign
  cases x.kind with
  | feeder =>
    cases x.connectedA with
    | false | true => cases p <;> simp
  | coupler q => simp

theorem holdsStuck_iff (set : List Member) : holdsStuck records set = true ↔
    ∃ m ∈ set, ∃ x, recordOf records m.station = some x ∧ (x.stuckA = true ∨ x.stuckB = true) := by
  simp only [holdsStuck, List.any_eq_true]
  refine exists_congr fun m => and_congr_right fun _ => ?_
  cases recordOf records m.station <;> simp [StationRecord.stuck]

end

/-! ## The replica of a row -/

section
variable (c : Configuration) (round : Round) (es : List Entry)

theorem formReplica_members (z : Zone) : (formReplica c round es).members z =
    memberSet (formReplica c round es).records (formReplica c round es).merged z := by cases z <;> rfl

theorem formReplica_stuck (z : Zone) : (formReplica c round es).stuck.has z =
    holdsStuck (formReplica c round es).records ((formReplica c round es).members z) := by cases z <;> rfl

end

/-! ## Its records (R99) -/

section
variable {s : State} {c : Configuration} {o : CloseOrder} {row : Row}

/-- A record that a block offers at a close, while there is room for it, is in the Event List after the close. -/
theorem State.closeThrough_recorded (ho : o.valid = true) (b : CloseBlock) {r : EventRecord}
    (h : r ∈ (closeBlock c (s.closeBefore c o b) b).events.records) : r ∈ (s.closeThrough c o).events.records := by
  obtain ⟨post, -, hsplit⟩ := s.closeThrough_split c ho b
  rw [hsplit]
  exact (closeBlocks_grows _ c post).mem h

theorem State.closeBefore_round (hc : s.life.config = some c) (b : CloseBlock) :
    (s.closeBefore c o b).timer.round = s.timer.round := by
  have hclock := State.closeThrough_kept (s := s) hc closeBlock_keeps_clock (o.takeWhile (· != b))
  simp only [Prod.mk.injEq] at hclock
  obtain ⟨-, hround, -⟩ := hclock
  exact hround

/-- The first record offered joins a list that has room. -/
theorem State.offerAll_head_mem {u : State} {d : Draft} (ds : List Draft) (h : u.events.records.length < 64) :
    u.asRecord d ∈ (u.offerAll (d :: ds)).events.records := by
  rw [State.offerAll_cons]
  exact State.mem_offerAll ds (by rw [State.offer_events]; exact EventList.offer_mem _ h)

/-- A change of mode is the first record of a formation. -/
theorem State.closeThrough_modeRecord (h : s.closes c o) (hrow : s.table.openRow = some row) {d : Draft}
    (hd : mergeDraft s.replica.held (formReplica c row.round (s.closeBefore c o .replica).membership.entries) = [d])
    (hroom : (s.closeBefore c o .replica).events.records.length < 64) :
    s.asRecord d ∈ (s.closeThrough c o).events.records := by
  obtain ⟨hfound, -, -⟩ := State.closeThrough_replica h hrow
  refine State.closeThrough_recorded h.valid .replica ?_
  simp only [closeBlock, State.replicaClose, State.closeBefore_newest hrow, hfound, replicaDrafts, hd, List.cons_append]
  rw [State.asRecord, ← State.closeBefore_round (o := o) h.config .replica]
  exact State.offerAll_head_mem (u := { s.closeBefore c o .replica with replica :=
    { held := formReplica c row.round (s.closeBefore c o .replica).membership.entries, previous := s.replica.held } }) _ hroom

end

/-- Settles O22: the replica of the row is formReplica of the entries its unit finds, read part by part. -/
theorem replicaFormed : Obligations.ReplicaFormed := by
  intro o s c row u h hrow hu onBus onA onB
  obtain ⟨-, -, hthrough⟩ := State.closeThrough_replica h hrow
  rw [hu] at hthrough
  refine ⟨s.closeThrough c o, formReplica c row.round u.membership.entries, exec_closePoint h, hthrough, rfl, ?_, ?_,
    fun n x p hn hx => ⟨?_, ?_, ?_⟩, fun z => ⟨?_, fun m hm => ?_, ?_⟩, fun hroom hheld hmerged => ?_,
    fun hroom hheld hmerged => ?_⟩
  · refine (mergedBy_iff u.membership.entries).trans (exists_congr fun e => ?_)
    rw [connectsA_iff, connectsB_iff]
  · refine List.forall₂_map_right_iff.mpr (List.forall₂_same.mpr fun e _ => ⟨rfl, rfl, rfl, connectsA_iff e, connectsB_iff e, ?_, ?_,
      ?_, ?_, fun hk => Entry.record_coupler_zones c e _ hk, fun hk hsplit => ?_, fun hk hmerged => ?_⟩)
    · simp [Entry.record]
    · simp [Entry.record]
    · simp [Entry.record, Entry.releasedAt]
    · have ha : connectsA e.positions = true ↔ onA e := connectsA_iff e
      have hb : connectsB e.positions = true ↔ onB e := connectsB_iff e
      rw [← ha, ← hb]
      simp [Entry.record, and_assoc]
    · have hmode : mergedBy u.membership.entries = false := hsplit
      rw [hmode]
      exact Entry.record_feeder_split c e hk
    · have hmode : mergedBy u.membership.entries = true := hmerged
      rw [hmode]
      exact Entry.record_feeder_merged c e hk
  · exact (mem_memberSet_of_record hn hx).trans StationRecord.sign_a
  · exact (mem_memberSet_of_record hn hx).trans StationRecord.sign_b
  · exact (mem_memberSet_of_record hn hx).trans StationRecord.sign_cz
  · rw [formReplica_members]
    exact memberSet_ascends _ _ _
  · rw [formReplica_members] at hm
    obtain ⟨hlt, x, hx, -⟩ := (mem_memberSet m).mp hm
    exact ⟨hlt, by rw [hx]; rfl⟩
  · rw [formReplica_stuck]
    exact holdsStuck_iff _
  · subst hu
    refine State.closeThrough_modeRecord h hrow (d := { kind := .replicaMerge, subject := _, detail := _ }) ?_ hroom
    simp only [mergeDraft, hheld, hmerged]
    rfl
  · subst hu
    refine State.closeThrough_modeRecord h hrow (d := { kind := .replicaSplit, subject := _, detail := _ }) ?_ hroom
    simp only [mergeDraft, hheld, hmerged]
    rfl

end Sys2Proof.Machine
end

section
/-! PROOFS. What the Zone Evaluator starts a close with: the inputs of each zone's steps, and the records after a merge or a split (R120,
R127 to R129). -/

namespace Sys2Proof.Machine

/-! ## The combined record (R127) -/

section
variable (a b : ZoneRecord)

variable {x y : ZoneState}

/-- One of the two states, as the combination reads them. -/
abbrev MergesFrom (x y st : ZoneState) : Prop := mergeView x y = st ∨ mergeView y x = st

theorem MergesFrom.not_inactive {st : ZoneState} (h : MergesFrom x y st) (hst : st ≠ .inactive) :
    ¬ (mergeView x y = .inactive ∧ mergeView y x = .inactive) := by
  rintro ⟨hx, hy⟩
  rcases h with h | h
  · exact hst (h.symm.trans hx)
  · exact hst (h.symm.trans hy)

theorem mergeState_inactive (hx : x = .inactive) (hy : y = .inactive) : mergeState x y = .inactive := by
  simp [mergeState, mergeView, hx, hy]

theorem mergeState_blocked (h : MergesFrom x y .blocked) : mergeState x y = .blocked := by
  rw [mergeState, if_neg (h.not_inactive (by decide)), if_pos h]

theorem mergeState_arming (h : MergesFrom x y .arming) (hb : ¬ MergesFrom x y .blocked) : mergeState x y = .arming := by
  rw [mergeState, if_neg (h.not_inactive (by decide)), if_neg hb, if_pos h]

theorem mergeState_tripped (h : MergesFrom x y .tripped) (hb : ¬ MergesFrom x y .blocked) (ha : ¬ MergesFrom x y .arming) :
    mergeState x y = .tripped := by
  rw [mergeState, if_neg (h.not_inactive (by decide)), if_neg hb, if_neg ha, if_pos h]

theorem mergeState_active (h : MergesFrom x y .active) (hb : ¬ MergesFrom x y .blocked) (ha : ¬ MergesFrom x y .arming)
    (ht : ¬ MergesFrom x y .tripped) : mergeState x y = .active := by
  rw [mergeState, if_neg (h.not_inactive (by decide)), if_neg hb, if_neg ha, if_neg ht]

theorem mergeArming_arming (h : mergeState a.state b.state = .arming) :
    (a.state = .arming → b.state = .arming → mergeArming a b = min a.armingCount b.armingCount) ∧
    (a.state = .arming → b.state ≠ .arming → mergeArming a b = a.armingCount) ∧
    (a.state ≠ .arming → b.state = .arming → mergeArming a b = b.armingCount) := by
  rw [mergeArming, if_pos h]
  exact ⟨fun ha hb => if_pos ⟨ha, hb⟩, fun ha hb => by rw [if_neg fun h => hb h.2, if_pos ha],
    fun ha _ => by rw [if_neg fun h => ha h.1, if_neg ha]⟩

end

/-! ## The state at the close -/

section
variable {s : State} {c : Configuration} {o : CloseOrder} {row : Row}

/-- What the Zone Evaluator finds at a close: the zones as they were, the replica and the closing records as the close leaves them. -/
theorem State.closeBefore_zones (h : s.closes c o) : (s.closeBefore c o .zones).zones = s.zones ∧
    (s.closeBefore c o .zones).replica = (s.closeThrough c o).replica ∧
    ∀ n, closingPresent (s.closeBefore c o .zones).membership.entries n =
      closingPresent (s.closeThrough c o).membership.entries n := by
  obtain ⟨-, hc, -, hvalid⟩ := h
  refine ⟨(State.closeBefore_unwritten hc (zones_writes c)).trans (by simp),
    State.closeBefore_written hc hvalid (replica_writes c) (by decide), fun n => ?_⟩
  rw [closingPresent_eq, closingPresent_eq]
  have hclosing := State.closeBefore_written hc hvalid (membership_writes_closing c n) (d := .zones) (by decide)
  beta_reduce at hclosing
  rw [hclosing]

theorem State.closeThrough_merged (h : s.closes c o) (hrow : s.table.openRow = some row) :
    (s.closeThrough c o).zones.merged = (s.closeThrough c o).replica.held.merged := by
  obtain ⟨-, hreplica, -⟩ := State.closeBefore_zones h
  rw [State.closeThrough_written h.config h.valid (zones_writes c), ← hreplica]
  simp only [closeBlock, State.zonesClose, State.closeBefore_newest hrow, State.offerAll_frame]

theorem State.closeThrough_verdict (h : s.closes c o) (hrow : s.table.openRow = some row) :
    (s.closeThrough c o).zones.verdict = verdictOf (s.closeThrough c o).zones.a (s.closeThrough c o).zones.b := by
  rw [State.closeThrough_written h.config h.valid (zones_writes c)]
  simp only [closeBlock, State.zonesClose, State.closeBefore_newest hrow, State.offerAll_frame]

end

/-! ## The inputs of a zone -/

section
variable {c : Configuration} {u : State} {row : Row}

/-- A zone's own inputs: its member sets, stuck flag and requests in the replicas held. In MERGED mode B's are A's (R120, R128). -/
theorem zoneStart_inputs (z : Zone) (hz : z = .b → u.replica.held.merged = false) :
    (zoneStart c u row z).1.members = u.replica.held.members z ∧ (zoneStart c u row z).1.previous = u.replica.previous.members z ∧
    (zoneStart c u row z).1.stuck = u.replica.held.stuck.has z ∧ (zoneStart c u row z).1.entries = u.membership.entries ∧
    (zoneStart c u row z).1.row = row ∧
    ∀ asked : ZoneSet, (zoneStart c u row z).1.asks asked = (asked.has z || (z == .a && u.replica.held.merged && asked.b)) := by
  cases z with
  | cz => exact ⟨rfl, rfl, rfl, rfl, rfl, fun asked => by simp [zoneStart, czInputs, ZoneSet.has]⟩
  | a =>
    refine ⟨rfl, rfl, rfl, rfl, rfl, fun asked => ?_⟩
    cases hm : u.replica.held.merged <;> simp [zoneStart, aInputs, ZoneSet.has, hm]
  | b =>
    have hm := hz rfl
    simp only [zoneStart, hm, Bool.false_eq_true, if_false]
    exact ⟨rfl, rfl, rfl, rfl, rfl, fun asked => by simp [bInputs, ZoneSet.has]⟩

theorem ZoneInputs.complete_iff (x : ZoneInputs) : x.complete = true ↔ x.members ≠ [] ∧
    ∀ m ∈ x.members, ∃ k, x.row.content m.station = some k ∧ k.quality = .valid := by
  have hvalid (n : Nat) : (validContent x.row n).isSome = true ↔ ∃ k, x.row.content n = some k ∧ k.quality = .valid := by
    unfold validContent
    cases x.row.content n with
    | none => simp
    | some k => by_cases hk : k.quality = .valid <;> simp [hk]
  simp [ZoneInputs.complete, hvalid]

theorem zoneStart_cz : (zoneStart c u row .cz).2 = u.zones.cz := rfl

theorem zoneStart_a : (zoneStart c u row .a).2 = (stepCombine u).1 := rfl

theorem zoneStart_b : (zoneStart c u row .b).2 = if u.replica.held.merged then (stepCombine u).1 else (stepCombine u).2.1 := by
  unfold zoneStart
  dsimp only
  split <;> rfl

theorem stepCombine_same (h : u.zones.merged = u.replica.held.merged) : stepCombine u = (u.zones.a, u.zones.b, none) := by
  unfold stepCombine
  rw [h]
  cases u.replica.held.merged <;> rfl

theorem stepCombine_merge (h : u.zones.merged = false) (hr : u.replica.held.merged = true) :
    stepCombine u = (mergeRecords u.zones.a u.zones.b, mergeRecords u.zones.a u.zones.b, some .merge) := by
  simp [stepCombine, h, hr]

theorem stepCombine_split (h : u.zones.merged = true) (hr : u.replica.held.merged = false) :
    stepCombine u = (u.zones.a.clearWindows, u.zones.a.clearWindows, some .split) := by
  simp [stepCombine, h, hr]

theorem ZoneRecord.clearWindows_cleared (z : ZoneRecord) (p : Phase) :
    (z.clearWindows.phases.get p).clearWindow = z.clearWindows.phases.get p := by
  cases p <;> rfl

end

/-- Settles O23: the evaluator finds its own zones and the replica and closing records of this close, and starts each zone from them. -/
theorem zonesMergeAndSplit : Obligations.ZonesMergeAndSplit := by
  intro o s c row h hrow x start a b viewA viewB either cleared
  obtain ⟨hzones, hreplica, hclosing⟩ := State.closeBefore_zones h
  have hmerged := State.closeThrough_merged h hrow
  have hzone := State.closeThrough_zone (c := c) h.valid hrow
  have hmode : (s.closeBefore c o .zones).replica.held.merged = (s.closeThrough c o).zones.merged := by rw [hmerged, hreplica]
  have hstartA : start .a = (stepCombine (s.closeBefore c o .zones)).1 := zoneStart_a
  have hstartB : start .b = if (s.closeThrough c o).zones.merged then (stepCombine (s.closeBefore c o .zones)).1
      else (stepCombine (s.closeBefore c o .zones)).2.1 := by rw [← hmode]; exact zoneStart_b
  refine ⟨s.closeThrough c o, exec_closePoint h, hmerged, hzone, fun hm => ?_, fun z hz => ?_, fun z => ?_, ?_, fun hsame => ?_,
    fun hs ht => ?_, fun hs ht => ?_, fun hs ht => ?_⟩
  case refine_1 =>
    have hbz := hzone .b
    have haz := hzone .a
    have hinputs : s.zoneAtClose c o row .b = s.zoneAtClose c o row .a := by
      unfold State.zoneAtClose zoneStart
      dsimp only
      rw [hmode, if_pos hm]
    rw [hinputs, ← haz] at hbz
    exact hbz
  case refine_2 =>
    obtain ⟨hmembers, hprevious, hstuck, hentries, hrowz, hasks⟩ :=
      zoneStart_inputs (c := c) (u := s.closeBefore c o .zones) (row := row) z fun hb => hmode.trans (hz.2 hb)
    rw [hreplica] at hmembers hprevious hstuck
    refine ⟨hmembers, hprevious, hstuck, ?_, ?_, fun asked => ?_⟩
    · refine List.filter_congr fun n _ => ?_
      rw [← hclosing n, ← hentries]
      rfl
    · have hcomplete := (x z).complete_iff
      rwa [hz.1] at hcomplete
    · rw [← hmode]
      exact hasks asked
  case refine_3 => exact (s.zoneAtClose_row_check c o row z).1
  case refine_4 => rw [← hzones]; exact zoneStart_cz
  case refine_5 =>
    rw [hstartA, stepCombine_same (by rw [hzones, hmode]; exact hsame), hzones]
  case refine_6 =>
    rw [hstartB, if_neg (by simp [ht]), stepCombine_same (by rw [hzones, hmode, hs, ht]), hzones]
  case refine_7 =>
    have hsplit := stepCombine_split (u := s.closeBefore c o .zones) (by rw [hzones]; exact hs) (hmode.trans ht)
    rw [hstartB, if_neg (by simp [ht]), hstartA, hsplit, hzones]
    exact ⟨rfl, rfl⟩
  case refine_8 =>
    have hmerge := stepCombine_merge (u := s.closeBefore c o .zones) (by rw [hzones]; exact hs) (hmode.trans ht)
    rw [hstartB, if_pos ht, hstartA, hmerge, hzones]
    refine ⟨rfl, fun hin => mergeState_inactive hin.1 hin.2, fun hb => mergeState_blocked hb, fun ha hb => ?_,
      fun htr hb ha => mergeState_tripped htr hb ha, fun hac hb ha htr => mergeState_active hac hb ha htr, rfl, rfl, rfl, fun p => ?_⟩
    · have hstate := mergeState_arming ha hb
      exact ⟨hstate, mergeArming_arming a b hstate⟩
    · exact ZoneRecord.clearWindows_cleared _ p

end Sys2Proof.Machine
end

section
/-! PROOFS. The zones at a close: arming, clearing, gaps, the supervision latch (R119 to R126, R130). -/

namespace Sys2Proof.Machine

section
variable {s : State} {c : Configuration} {o : CloseOrder} {row : Row} {z : Zone} {x : ZoneInputs} {z0 : ZoneRecord}

/-! ## What a close brings about in a zone -/

/-- The outcome of a zone's steps in the outcome of a close. -/
theorem zonesOutcome_get (c : Configuration) (u : State) (row : Row) (z : Zone) :
    (zonesOutcome c u row).get z = zoneSteps c (zoneStart c u row z).1 (zoneStart c u row z).2 := by
  cases z with
  | a | cz => rfl
  | b => cases hm : u.replica.held.merged <;> simp [ZonesOutcome.get, zonesOutcome, zoneStart, hm]

theorem State.zonesAtClose_get (hrow : s.table.openRow = some row) (hz : s.zoneAtClose c o row z = (x, z0)) :
    ∃ outcome, s.zonesAtClose c o = some outcome ∧ outcome.get z = zoneSteps c x z0 := by
  refine ⟨zonesOutcome c (s.closeBefore c o .zones) row, by simp [State.zonesAtClose, State.closeBefore_newest hrow], ?_⟩
  rw [zonesOutcome_get]
  unfold State.zoneAtClose at hz
  rw [hz]

theorem State.zoneAfter (h : s.closes c o) (hrow : s.table.openRow = some row) (hz : s.zoneAtClose c o row z = (x, z0)) :
    (s.closeThrough c o).zones.get z = (zoneSteps c x z0).zone := by
  rw [State.closeThrough_zone h.valid hrow, hz]

/-- The close changes a zone's state for the reason of its steps. -/
theorem State.bringsReason_of (h : s.closes c o) (hrow : s.table.openRow = some row) (hz : s.zoneAtClose c o row z = (x, z0))
    {r : ZoneReason} (hr : (zoneSteps c x z0).reason = some r)
    (hne : (s.zones.get z).state ≠ (zoneSteps c x z0).zone.state) : s.bringsReason z r o = true := by
  obtain ⟨outcome, houtcome, hget⟩ := State.zonesAtClose_get hrow hz
  rw [zoneSteps_state] at hne
  refine State.closeBrings_of h ?_
  simp [houtcome, hget, hr, hne]

theorem State.bringsLatch_of (h : s.closes c o) (hrow : s.table.openRow = some row) (hz : s.zoneAtClose c o row z = (x, z0))
    (hl : (zoneSteps c x z0).latched.isSome = true) : s.bringsLatch z o = true := by
  obtain ⟨outcome, houtcome, hget⟩ := State.zonesAtClose_get hrow hz
  refine State.closeBrings_of h ?_
  simp [houtcome, hget, hl]

/-- CZ is the check zone, and the others read what it came to (R123). -/
theorem State.zoneAtClose_check (hz : s.zoneAtClose c o row z = (x, z0)) : x.check = decide (z = .cz) := by
  have hcheck := (s.zoneAtClose_row_check c o row z).2
  rwa [hz] at hcheck

/-! ## The state a zone comes to -/

theorem zoneSteps_of_state {r : ZoneReason} {w : ZoneRecord} (hs : stepState c x (zoneJudged c x z0) = (w, r))
    (hne : w.state ≠ z0.state) : (zoneSteps c x z0).zone.state = w.state ∧ (zoneSteps c x z0).zone.armingCount = w.armingCount ∧
    (zoneSteps c x z0).zone.gapCount = w.gapCount ∧ (zoneSteps c x z0).zone.clearRun = w.clearRun ∧
    (zoneSteps c x z0).reason = some r := by
  obtain ⟨harming, hgap, hclear⟩ := zoneSteps_counts c x z0
  rw [hs] at harming hgap hclear
  refine ⟨by rw [zoneSteps_state, hs], harming, hgap, hclear, ?_⟩
  rw [zoneSteps_reason, hs, if_neg hne]

/-- A zone that leaves service has its windows cleared (R119). -/
theorem zoneSteps_cleared (hout : (stepState c x (zoneJudged c x z0)).1.state.outOfService = true)
    (hne : (stepState c x (zoneJudged c x z0)).1.state ≠ z0.state) :
    (zoneSteps c x z0).zone = (stepState c x (zoneJudged c x z0)).1.clearWindows := by
  rw [zoneSteps]
  exact if_pos ⟨hout, by rwa [zoneJudged_state]⟩

end

/-- Settles O25: step 7 of an ARMING zone whose count is full. -/
theorem zoneArms : Obligations.ZoneArms := by
  intro z o s c row x z0 h hrow hz ⟨hmembers, habsent, hlatch⟩ hcomplete hstate hcount hnot
  have hstep : stepState c x (zoneJudged c x z0) =
      ({ zoneJudged c x z0 with state := .active, armingCount := 0, gapCount := 0 }, .armed) := by
    rw [stepState_complete c hmembers hlatch habsent hcomplete, completeRow, zoneJudged_state, hstate]
    dsimp only
    rw [(zoneJudged_counts c x z0).1, if_pos hcount]
  obtain ⟨hactive, harming, hgap, -, hreason⟩ := zoneSteps_of_state hstep (by simp [hstate])
  have hbrings := State.bringsReason_of h hrow hz hreason (by rw [hactive]; exact hnot)
  obtain ⟨-, hreplica, -⟩ := State.closeBefore_zones h
  refine ⟨s.closeThrough c o, live_closePoint h (test := fun u => u.bringsReason z .armed o) hbrings, ?_, ?_, ?_, ?_⟩
  · rw [State.zoneAfter h hrow hz, hactive]
  · rw [State.zoneAfter h hrow hz, harming]
  · rw [State.zoneAfter h hrow hz, hgap]
  · rw [State.closeThrough_merged h hrow, hreplica]

/-- Settles O27: step 7 of a TRIPPED busbar zone whose clear run is full. -/
theorem zoneClears : Obligations.ZoneClears := by
  intro z o s c row x z0 h hrow hbus hz ⟨hmembers, habsent, hlatch⟩ hcomplete hstate hfault hrun hnot
  have hcheck : x.check = false := by rw [State.zoneAtClose_check hz]; simp [hbus]
  have hstep : stepState c x (zoneJudged c x z0) =
      ({ zoneJudged c x z0 with state := .active, gapCount := 0, clearRun := 0 }, .clear) := by
    rw [stepState_complete c hmembers hlatch habsent hcomplete, completeRow, zoneJudged_state, hstate]
    dsimp only
    rw [if_neg (by simp [hcheck]), if_neg (by simp [hfault]), (zoneJudged_counts c x z0).2.2, if_pos hrun]
  obtain ⟨hactive, -, hgap, hclear, hreason⟩ := zoneSteps_of_state hstep (by simp [hstate])
  have hbrings := State.bringsReason_of h hrow hz hreason (by rw [hactive]; exact hnot)
  have hafter := State.zoneAfter h hrow hz
  have hverdict := State.closeThrough_verdict h hrow
  refine ⟨s.closeThrough c o, live_closePoint h (test := fun u => u.bringsReason z .clear o) hbrings, ?_, ?_, ?_, ?_, ?_⟩
  · rw [hafter, hactive]
  · rw [hafter, hclear]
  · rw [hafter, hgap]
  · rintro rfl
    have ha : (s.closeThrough c o).zones.a.state = .active := (congrArg ZoneRecord.state hafter).trans hactive
    rw [hverdict, verdictOf, ha]
    rfl
  · rintro rfl
    have hb : (s.closeThrough c o).zones.b.state = .active := (congrArg ZoneRecord.state hafter).trans hactive
    rw [hverdict, verdictOf, hb]
    rfl

/-- Settles O28: step 7 of an ACTIVE zone at its second gap, which leaves service. -/
theorem zoneBlocksOnGaps : Obligations.ZoneBlocksOnGaps := by
  intro z o s c row x z0 h hrow hz ⟨hmembers, habsent, hlatch⟩ hincomplete hstate hgaps hnot
  have hstep : stepState c x (zoneJudged c x z0) = ((zoneJudged c x z0).outOf .blocked, .gaps) := by
    rw [stepState_incomplete c hmembers hlatch habsent hincomplete, incompleteRow, zoneJudged_state, hstate]
    dsimp only
    rw [(zoneJudged_counts c x z0).2.1, if_pos hgaps]
  have hne : ((zoneJudged c x z0).outOf .blocked).state ≠ z0.state := by simp [ZoneRecord.outOf, hstate]
  obtain ⟨hblocked, harming, hgap, -, hreason⟩ := zoneSteps_of_state hstep hne
  have hbrings := State.bringsReason_of h hrow hz hreason (by rw [hblocked]; exact hnot)
  have hafter := State.zoneAfter h hrow hz
  refine ⟨s.closeThrough c o, live_closePoint h (test := fun u => u.bringsReason z .gaps o) hbrings, ?_, ?_, ?_, fun p => ?_⟩
  · rw [hafter, hblocked]; rfl
  · rw [hafter, hgap]; rfl
  · rw [hafter, harming]; rfl
  · rw [hafter, zoneSteps_cleared (by rw [hstep]; rfl) (by rw [hstep]; exact hne)]
    simp [ZoneRecord.clearWindows, PhaseRecord.clearWindow]

/-! ## The supervision latch -/

section
variable {c : Configuration} {x : ZoneInputs} {z0 : ZoneRecord}

theorem namedPhase_isSome (pick : Nat) {ps : List Phase} (h : ps ≠ []) : (namedPhase pick ps).isSome = true := by
  unfold namedPhase
  split
  · contradiction
  · rfl
  · rename_i ps _ _
    rw [List.getElem?_eq_getElem (Nat.mod_lt _ (List.length_pos_iff.mpr h))]
    rfl

/-- A phase reaches SUP_TIME on a qualifying row alone, which has members. -/
theorem members_of_runsReached {w : ZoneRecord} (h : runsReached c x w ≠ []) : x.members ≠ [] := by
  intro hempty
  have hqualifying : x.qualifying = false := by simp [ZoneInputs.qualifying, ZoneInputs.complete, hempty]
  simp [runsReached, hqualifying] at h

theorem stepLatch_sets {w : ZoneRecord} (h : runsReached c x w ≠ []) : stepLatch c x w = { w.zeroRuns with latch := true } := by
  simp [stepLatch, h]

theorem zoneJudged_latch : (zoneJudged c x z0).latch = (stepLatch c x (zoneSupervised c x z0)).latch := rfl

theorem phaseJudge_supervisionRun (evaluated stuck : Bool) (p : PhaseRecord) :
    (phaseJudge c evaluated stuck p).supervisionRun = p.supervisionRun := by
  cases evaluated <;> rfl

/-- A zone whose latch is set has no supervision run left (R130). -/
theorem zoneSteps_runs (h : runsReached c x (zoneSupervised c x z0) ≠ []) (p : Phase) :
    ((zoneSteps c x z0).zone.phases.get p).supervisionRun = 0 := by
  have hjudged : ((zoneJudged c x z0).phases.get p).supervisionRun = 0 := by
    rw [zoneJudged_get, phaseJudge_supervisionRun, stepLatch_sets h]
    simp [ZoneRecord.zeroRuns]
  rw [zoneSteps]
  dsimp only
  split
  · simp [ZoneRecord.clearWindows, PhaseRecord.clearWindow]
  · rw [stepState_phases, hjudged]

end

/-- Settles O29: the latch set by step 5 blocks the zone in step 7. -/
theorem supervisionLatches : Obligations.SupervisionLatches := by
  intro z o s c row x z0 h hrow hz hruns
  have hlatch : (zoneJudged c x z0).latch = true := by rw [zoneJudged_latch, stepLatch_sets hruns]
  have hstep := stepState_blocked c (members_of_runsReached hruns) (.inl hlatch)
  have hafter := State.zoneAfter h hrow hz
  have hbrings := State.bringsLatch_of h hrow hz (by
    simp only [zoneSteps, Option.isSome_map]
    exact namedPhase_isSome _ hruns)
  refine ⟨s.closeThrough c o, live_closePoint h (test := fun u => u.bringsLatch z o) hbrings, ?_, ?_, fun p => ?_⟩
  · rw [hafter, zoneSteps_latch, hstep]
    exact hlatch
  · rw [hafter, zoneSteps_state, hstep]
    rfl
  · rw [hafter]
    exact zoneSteps_runs hruns p

end Sys2Proof.Machine
end

section
/-! PROOFS. A zone judged on a complete row, and its trip (R117, R118, R121 to R126, R132). -/

namespace Sys2Proof.Machine

section
variable {s : State} {c : Configuration} {o : CloseOrder} {row : Row} {z : Zone} {x : ZoneInputs} {z0 : ZoneRecord} {p : Phase}

/-! ## A phase on an evaluated row -/

theorem phaseJudge_evaluated (stuck : Bool) (q : PhaseRecord) : phaseJudge c true stuck q =
    { phaseWindow c (phaseMark c q) with
      effectiveCount := effectiveFor c stuck (phaseWindow c (phaseMark c q))
      faulted := decide (effectiveFor c stuck (phaseWindow c (phaseMark c q)) ≤ (phaseWindow c (phaseMark c q)).trueCount) } := rfl

theorem restraintHigh_of {q : PhaseRecord} {r : Nat} (hr : q.restraint = some r) :
    restraintHigh c q = decide (c.incept * c.pickup ≤ r) := by
  simp [restraintHigh, hr]

theorem phaseMark_markHold {q : PhaseRecord} {r : Nat} {b : Bool} (hr : q.restraint = some r) (hb : q.condition = some b) :
    (phaseMark c q).markHold =
      if decide (c.incept * c.pickup ≤ r) = true ∧ q.previousHigh = false ∧ b = false then c.holdTf else q.markHold - 1 := by
  simp [phaseMark, restraintHigh_of hr, hb, and_assoc]

theorem phaseWindow_window {q : PhaseRecord} {b : Bool} (hb : q.condition = some b) :
    (phaseWindow c (phaseMark c q)).window = (q.window ++ [b]).drop ((q.window ++ [b]).length - c.w) := by
  simp [phaseWindow, phaseMark, lastN, hb]

theorem zoneSupervised_latch_quantities : ((stepLatch c x (zoneSupervised c x z0)).phases.get p).quantities =
    ((zoneMeasured c x z0).phases.get p).quantities := by
  rw [stepLatch_quantities, zoneSupervised, stepRuns_quantities, stepRelease_quantities]

/-- The record of a phase that step 6 judges: this row's quantities, and the memory that a change of members clears (R119). -/
theorem judgedPhase (h : x.complete = true) : ∃ q : PhaseRecord,
    (stepLatch c x (zoneSupervised c x z0)).phases.get p = q ∧
    q.restraint = some (restraintQuantity x.row p x.members) ∧
    q.condition = some (biasCondition c x.check (operateQuantity x.row p x.members) (restraintQuantity x.row p x.members)) ∧
    q.window = (if x.members ≠ x.previous then [] else (z0.phases.get p).window) ∧
    q.markHold = (if x.members ≠ x.previous then 0 else (z0.phases.get p).markHold) ∧
    q.previousHigh = (if x.members ≠ x.previous then false else (z0.phases.get p).previousHigh) := by
  have hmemory := (PhaseRecord.memory_eq _).mp
    ((stepLatch_memory c x (zoneSupervised c x z0) p).trans (zoneSupervised_memory c x z0 p))
  have hquantities := zoneSupervised_latch_quantities (c := c) (x := x) (z0 := z0) (p := p)
  rw [zoneMeasured, stepQuantities_get, phaseQuantities, if_pos h] at hquantities
  obtain ⟨-, hrestraint, hcondition⟩ := PhaseRecord.quantities_eq.mp hquantities
  obtain ⟨hwindow, hmark, hhigh⟩ := hmemory
  rw [stepMembers_get] at hwindow hmark hhigh
  refine ⟨_, rfl, hrestraint, hcondition, ?_, ?_, ?_⟩
  · rw [hwindow]; split <;> simp_all [PhaseRecord.clearWindow]
  · rw [hmark]; split <;> simp_all [PhaseRecord.clearWindow]
  · rw [hhigh]; split <;> simp_all [PhaseRecord.clearWindow]

/-- On a complete row without a blocking condition the zone stays in service or comes into it. -/
theorem completeRow_inService (w : ZoneRecord) : (completeRow c x w).1.state.outOfService = false := by
  unfold completeRow
  repeat' split
  all_goals first
    | rfl
    | simp_all [ZoneState.outOfService]

theorem zoneSteps_phases (hu : x.unblocked c z0) (h : x.complete = true) :
    (zoneSteps c x z0).zone.phases.get p = phaseJudge c true x.stuck ((stepLatch c x (zoneSupervised c x z0)).phases.get p) := by
  obtain ⟨hmembers, habsent, hlatch⟩ := hu
  have hin : ¬ ((stepState c x (zoneJudged c x z0)).1.state.outOfService = true ∧
      (stepState c x (zoneJudged c x z0)).1.state ≠ (zoneJudged c x z0).state) := by
    rw [stepState_complete c hmembers hlatch habsent h, completeRow_inService]
    simp
  have hevaluated : x.evaluated (stepLatch c x (zoneSupervised c x z0)) = true := by
    have hclear : (stepLatch c x (zoneSupervised c x z0)).latch = false := hlatch
    simp [ZoneInputs.evaluated, ZoneInputs.qualifying, h, habsent, hclear]
  rw [← hevaluated, ← zoneJudged_get]
  simp only [zoneSteps]
  rw [if_neg hin, stepState_phases]

theorem zoneSteps_judged (hu : x.unblocked c z0) (h : x.complete = true) :
    (zoneSteps c x z0).zone.phases.get p = (zoneJudged c x z0).phases.get p := by
  obtain ⟨hmembers, habsent, hlatch⟩ := hu
  have hin : ¬ ((stepState c x (zoneJudged c x z0)).1.state.outOfService = true ∧
      (stepState c x (zoneJudged c x z0)).1.state ≠ (zoneJudged c x z0).state) := by
    rw [stepState_complete c hmembers hlatch habsent h, completeRow_inService]
    simp
  simp only [zoneSteps]
  rw [if_neg hin, stepState_phases]

/-! ## The phases that confirm a trip (R123) -/

theorem mem_confirmedPhases (w : ZoneRecord) : p ∈ confirmedPhases x w ↔
    (w.phases.get p).faulted = true ∧ x.czFaulted.get p = true ∧ x.czActive = true := by
  have hall : p ∈ [Phase.a, Phase.b, Phase.c] := by cases p <;> simp
  simp [confirmedPhases, hall, and_assoc]

/-- The first phase confirmed is the lowest. -/
theorem confirmedPhases_lowest {w : ZoneRecord} {rest : List Phase} (h : confirmedPhases x w = p :: rest) {q : Phase}
    (hq : phaseCode q < phaseCode p) : q ∉ confirmedPhases x w := by
  have hascends : (confirmedPhases x w).Pairwise fun m n => phaseCode m < phaseCode n :=
    List.Pairwise.filter _ (by decide : [Phase.a, Phase.b, Phase.c].Pairwise fun m n => phaseCode m < phaseCode n)
  rw [h] at hascends ⊢
  intro hmem
  rcases List.mem_cons.mp hmem with rfl | hmem
  · exact lt_irrefl _ hq
  · exact absurd ((List.pairwise_cons.mp hascends).1 q hmem) (by omega)

/-- What the busbar zones read of CZ is what the close leaves of it (R123). -/
theorem State.zoneAtClose_reads_check (h : s.closes c o) (hrow : s.table.openRow = some row)
    (hz : s.zoneAtClose c o row z = (x, z0)) (hbus : z ≠ .cz) :
    x.czActive = ((s.closeThrough c o).zones.cz.state == .active) ∧
    x.czFaulted = (s.closeThrough c o).zones.cz.phases.map PhaseRecord.faulted := by
  have hcz : (s.closeThrough c o).zones.cz =
      (zoneSteps c (czInputs (s.closeBefore c o .zones) row) (s.closeBefore c o .zones).zones.cz).zone :=
    State.zoneAfter h hrow (z := .cz) rfl
  have hx : x = (s.zoneAtClose c o row z).1 := by rw [hz]
  rw [hcz, hx]
  cases z with
  | cz => contradiction
  | a => exact ⟨rfl, rfl⟩
  | b =>
    simp only [State.zoneAtClose, zoneStart]
    split <;> exact ⟨rfl, rfl⟩

/-! ## Step 7 of an ACTIVE zone -/

theorem stepState_trips (hu : x.unblocked c z0) (h : x.complete = true) (hcheck : x.check = false) (hst : z0.state = .active)
    {rest : List Phase} (hp : confirmedPhases x (zoneJudged c x z0) = p :: rest) :
    stepState c x (zoneJudged c x z0) =
      ({ zoneJudged c x z0 with state := .tripped, gapCount := 0, clearRun := 0 }, .fault p) := by
  obtain ⟨hmembers, habsent, hlatch⟩ := hu
  rw [stepState_complete c hmembers hlatch habsent h, completeRow, zoneJudged_state, hst]
  simp only [hcheck, hp]

theorem stepState_holds (hu : x.unblocked c z0) (h : x.complete = true) (hst : z0.state = .active)
    (hp : x.check = true ∨ confirmedPhases x (zoneJudged c x z0) = []) :
    stepState c x (zoneJudged c x z0) = ({ zoneJudged c x z0 with gapCount := 0 }, .complete) := by
  obtain ⟨hmembers, habsent, hlatch⟩ := hu
  rw [stepState_complete c hmembers hlatch habsent h, completeRow, zoneJudged_state, hst]
  rcases hp with hp | hp
  · simp only [hp, zoneJudged_state, hst]
  · cases hc : x.check <;> simp only [hp, zoneJudged_state, hst]

theorem stepState_rearms (hu : x.unblocked c z0) (h : x.complete = true) (hst : z0.state = .inactive ∨ z0.state = .blocked) :
    stepState c x (zoneJudged c x z0) = ({ zoneJudged c x z0 with state := .arming, armingCount := 1 }, .complete) := by
  obtain ⟨hmembers, habsent, hlatch⟩ := hu
  rw [stepState_complete c hmembers hlatch habsent h, completeRow, zoneJudged_state]
  rcases hst with hst | hst <;> rw [hst]

theorem stepState_counts (hu : x.unblocked c z0) (h : x.complete = true) (hst : z0.state = .arming)
    (hcount : z0.armingCount + 1 < c.armRounds) : stepState c x (zoneJudged c x z0) =
      ({ zoneJudged c x z0 with armingCount := z0.armingCount + 1 }, .complete) := by
  obtain ⟨hmembers, habsent, hlatch⟩ := hu
  rw [stepState_complete c hmembers hlatch habsent h, completeRow, zoneJudged_state, hst]
  simp only [(zoneJudged_counts c x z0).1]
  rw [if_neg (by omega), zoneJudged_state, hst]

/-! ## The ZONE_STATE record -/

theorem zoneDrafts_length (start : ZoneEvaluator) (outcome : ZonesOutcome) (z : Zone) :
    (zoneDrafts start outcome z).length ≤ 3 := by
  unfold zoneDrafts
  repeat' split
  all_goals simp

/-- A change of a zone's state made by step 7 is recorded with that step's reason (R126). -/
theorem mem_zoneDrafts {start : ZoneEvaluator} {outcome : ZonesOutcome} {r : ZoneReason} (hr : (outcome.get z).reason = some r)
    (hne : (start.get z).state ≠ (outcome.get z).zone.state) :
    zoneDraft z (start.get z).state (outcome.get z).zone.state r ∈ zoneDrafts start outcome z := by
  have hreason : outcome.reason z = some r := by unfold ZonesOutcome.reason; rw [hr]
  simp [zoneDrafts, hne, hreason]

/-- With room for the records of all three zones, that of a zone's change joins the Event List. -/
theorem State.zoneState_recorded (h : s.closes c o) (hrow : s.table.openRow = some row)
    (hz : s.zoneAtClose c o row z = (x, z0)) {r : ZoneReason} (hr : (zoneSteps c x z0).reason = some r)
    (hne : (s.zones.get z).state ≠ (zoneSteps c x z0).zone.state)
    (hroom : (s.closeBefore c o .zones).events.records.length ≤ 55) :
    s.asRecord (zoneDraft z (s.zones.get z).state (zoneSteps c x z0).zone.state r) ∈ (s.closeThrough c o).events.records := by
  obtain ⟨hzones, -, -⟩ := State.closeBefore_zones h
  have hget : (zonesOutcome c (s.closeBefore c o .zones) row).get z = zoneSteps c x z0 := by
    rw [zonesOutcome_get]
    unfold State.zoneAtClose at hz
    rw [hz]
  have hdraft := mem_zoneDrafts (start := (s.closeBefore c o .zones).zones)
    (outcome := zonesOutcome c (s.closeBefore c o .zones) row) (by rw [hget]; exact hr) (by rw [hzones, hget]; exact hne)
  rw [hzones, hget] at hdraft
  refine State.closeThrough_recorded h.valid .zones ?_
  simp only [closeBlock, State.zonesClose, State.closeBefore_newest hrow, hzones]
  rw [State.asRecord, ← State.closeBefore_round (o := o) h.config .zones]
  have hlength (w : Zone) := zoneDrafts_length s.zones (zonesOutcome c (s.closeBefore c o .zones) row) w
  refine State.offerAll_mem (d := zoneDraft z (s.zones.get z).state (zoneSteps c x z0).zone.state r) _ ?_ ?_
  · simp only [List.length_append]
    have hcz := hlength .cz
    have ha := hlength .a
    have hb := hlength .b
    omega
  · simp only [List.mem_append]
    cases z with
    | cz => exact .inl (.inl hdraft)
    | a => exact .inl (.inr hdraft)
    | b => exact .inr hdraft

end

/-- Settles O26: the zone's steps case by case, with the confirmed phases read from the zones that the close leaves. -/
theorem zoneJudgedAndTripped : Obligations.ZoneJudgedAndTripped := by
  intro z o s c row x z0 h hrow hz changed confirmed
  have hafter := State.zoneAfter h hrow hz
  have hcounts := zoneSteps_counts c x z0
  refine ⟨s.closeThrough c o, exec_closePoint h, fun hempty => ?_, fun hmembers hblock => ?_, fun hu hcomplete => ?_,
    State.closeThrough_verdict h hrow⟩
  · have hstep := stepState_empty c (z := zoneJudged c x z0) hempty
    rw [hstep] at hcounts
    rw [hafter]
    exact ⟨by rw [zoneSteps_state, hstep]; rfl, hcounts⟩
  · have hstep := stepState_blocked c hmembers hblock
    rw [hstep] at hcounts
    rw [hafter]
    exact ⟨by rw [zoneSteps_state, hstep]; rfl, hcounts⟩
  have hconfirmed (hbus : z ≠ .cz) (p : Phase) : confirmed (s.closeThrough c o) p ↔
      p ∈ confirmedPhases x (zoneJudged c x z0) := by
    obtain ⟨hactive, hfaulted⟩ := State.zoneAtClose_reads_check h hrow hz hbus
    rw [mem_confirmedPhases, hactive, hfaulted, Tri.get_map, beq_iff_eq, ← zoneSteps_judged hu hcomplete, ← hafter]
  refine ⟨fun p => ?_, fun hst => ?_, fun hst hcount => ?_, fun hbus hst hsome => ?_, fun hbus hst hnone => ?_, fun hcz hst => ?_⟩
  · obtain ⟨q, hq, hrestraint, hcondition, hwindow, hmark, hhigh⟩ := judgedPhase (c := c) (z0 := z0) (p := p) hcomplete
    refine ⟨biasCondition c x.check (operateQuantity x.row p x.members) (restraintQuantity x.row p x.members),
      restraintQuantity x.row p x.members, ?_⟩
    rw [hafter, zoneSteps_phases hu hcomplete, hq, phaseJudge_evaluated]
    refine ⟨hcondition, hrestraint, ?_, ?_, ?_, ?_, ?_⟩
    · exact restraintHigh_of hrestraint
    · rw [← hhigh, ← hmark]
      exact phaseMark_markHold hrestraint hcondition
    · rw [← hwindow]
      exact phaseWindow_window hcondition
    · rfl
    · exact decide_eq_true_iff
  · have hstep := stepState_rearms hu hcomplete hst
    rw [hstep] at hcounts
    rw [hafter]
    exact ⟨by rw [zoneSteps_state, hstep], hcounts.1⟩
  · have hstep := stepState_counts hu hcomplete hst hcount
    rw [hstep] at hcounts
    rw [hafter]
    exact ⟨by rw [zoneSteps_state, hstep, zoneJudged_state, hst], hcounts.1⟩
  · have hcheck : x.check = false := by rw [State.zoneAtClose_check hz]; simp [hbus]
    obtain ⟨p, rest, hp⟩ : ∃ p rest, confirmedPhases x (zoneJudged c x z0) = p :: rest := by
      obtain ⟨p, hp⟩ := hsome
      exact List.exists_cons_of_ne_nil (List.ne_nil_of_mem ((hconfirmed hbus p).mp hp))
    have hstep := stepState_trips hu hcomplete hcheck hst hp
    obtain ⟨htripped, -, hgap, hclear, hreason⟩ := zoneSteps_of_state hstep (by simp [hst])
    rw [hafter]
    refine ⟨htripped, hgap, hclear, fun hroom hnot => ⟨p, ?_, fun q hq => ?_, ?_⟩⟩
    · exact (hconfirmed hbus p).mpr (by rw [hp]; exact List.mem_cons_self)
    · rw [hconfirmed hbus]
      exact confirmedPhases_lowest hp hq
    · have hrecord := State.zoneState_recorded h hrow hz hreason (by rw [htripped]; exact hnot) hroom
      rw [htripped] at hrecord
      exact hrecord
  · have hnil : confirmedPhases x (zoneJudged c x z0) = [] :=
      List.eq_nil_iff_forall_not_mem.mpr fun p hp => hnone ⟨p, (hconfirmed hbus p).mpr hp⟩
    have hstep := stepState_holds hu hcomplete hst (.inr hnil)
    rw [hstep] at hcounts
    rw [hafter]
    exact ⟨by rw [zoneSteps_state, hstep, zoneJudged_state, hst], hcounts.2.1⟩
  · have hcheck : x.check = true := by rw [State.zoneAtClose_check hz]; simp [hcz]
    have hstep := stepState_holds hu hcomplete hst (.inl hcheck)
    rw [hstep] at hcounts
    have hczAfter : (s.closeThrough c o).zones.cz = (zoneSteps c x z0).zone := by rw [← hafter, hcz]; rfl
    rw [hczAfter]
    exact ⟨by rw [zoneSteps_state, hstep, zoneJudged_state, hst], hcounts.2.1⟩

end Sys2Proof.Machine
end

section
/-! PROOFS. The Trip Unit at a close: what its steps leave alone, and what a change of the station state at the same close makes of it
(R139 to R150). -/

namespace Sys2Proof.Machine

/-! ## What a step of the Trip Unit leaves alone -/

/-- What the BF timer's step leaves alone (R147 to R149). -/
def TripUnit.output (t : TripUnit) : Bool × Nat × Bool := (t.energised, t.holdCount, t.latched)

/-- The cause set with its counts (R139 to R142). -/
def TripUnit.causes (t : TripUnit) : BusSet × List Nat × Nat × Nat := (t.causeZones, t.bfSources, t.confirmersA, t.confirmersB)

/-- What no change of state touches: the effective confirmation and the own peak (R138, R141). -/
def TripUnit.measures (t : TripUnit) : Nat × Nat := (t.effectiveConfirmation, t.ownPeak)

/-- The breaker-failure timer (R147). -/
def TripUnit.timer (t : TripUnit) : BfTimer × Nat × Bool := (t.bfTimer, t.bfCount, t.bfFlag)

section
variable {s : State} (c : Configuration)

theorem State.stepBf_keeps (s : State) (c : Configuration) : (s.stepBf c).trip.output = s.trip.output ∧
    (s.stepBf c).trip.causes = s.trip.causes ∧ (s.stepBf c).trip.measures = s.trip.measures := by
  unfold State.stepBf State.bfIdle State.bfRunning State.bfExpiredStep
  repeat' split
  all_goals exact ⟨rfl, rfl, rfl⟩

theorem State.decideOutput_keeps (s : State) (c : Configuration) : (s.decideOutput c).trip.timer = s.trip.timer ∧
    (s.decideOutput c).trip.causes = s.trip.causes ∧ (s.decideOutput c).trip.measures = s.trip.measures := by
  unfold State.decideOutput State.holdOutput
  dsimp only
  repeat' split
  all_goals exact ⟨rfl, rfl, rfl⟩

theorem State.formCauses_keeps (s : State) (c : Configuration) : (s.formCauses c).trip.timer = s.trip.timer ∧
    (s.formCauses c).trip.output = s.trip.output ∧ (s.formCauses c).trip.ownPeak = s.trip.ownPeak ∧
    (s.formCauses c).trip.effectiveConfirmation = effectiveConfirm c s.membership.entries := by
  unfold State.formCauses
  dsimp only
  split <;> exact ⟨rfl, rfl, rfl, rfl⟩

/-! ## The output's step, case by case (R143, R144) -/

theorem State.decideOutput_energises (hoff : s.trip.energised = false) (hcause : s.trip.noCause = false)
    (hst : s.life.state = .present) (hown : closingPresent s.membership.entries c.station = true) :
    s.decideOutput c = s.energise c := by
  simp [State.decideOutput, hoff, hcause, hst, hown]

theorem State.decideOutput_stays_off (hoff : s.trip.energised = false)
    (hno : s.trip.noCause = true ∨ s.life.state ≠ .present ∨ closingPresent s.membership.entries c.station = false) :
    s.decideOutput c = s := by
  rcases hno with h | h | h <;> simp [State.decideOutput, hoff, h]

theorem State.decideOutput_holds (hon : s.trip.energised = true) (hhold : s.trip.noCause = false ∨ 2 ≤ s.trip.holdCount) :
    (s.decideOutput c).trip.output = (true, s.trip.holdCount - 1, s.trip.latched) := by
  have hstay : ¬ (s.trip.noCause && s.trip.holdCount - 1 == 0) = true := by
    rcases hhold with h | h
    · simp [h]
    · simp only [Bool.and_eq_true, beq_iff_eq, not_and]
      omega
  simp only [State.decideOutput, hon, State.holdOutput]
  rw [if_neg hstay]
  simp [TripUnit.output]

theorem State.decideOutput_releases (hon : s.trip.energised = true) (hcause : s.trip.noCause = true)
    (hhold : s.trip.holdCount ≤ 1) : (s.decideOutput c).trip.output = (false, 0, s.trip.latched) := by
  have hzero : s.trip.holdCount - 1 = 0 := by omega
  simp [State.decideOutput, hon, State.holdOutput, hcause, hzero, TripUnit.output]

end

/-! ## Exits at the same close -/

section
variable {c : Configuration} {w : State}

/-- What a change of state out of JOINING or PRESENT leaves of the unit (R145, R150). -/
theorem tripExit_excluded {st : StationState} (h : st.contributing = true) (t : TripUnit) :
    (tripExit st .excluded t).timer = (.idle, 0, false) ∧ (tripExit st .excluded t).measures = t.measures ∧
    (tripExit st .excluded t).latched = t.latched ∧ (t.energised = false → (tripExit st .excluded t).energised = false) ∧
    (t.holdCount = 0 → (tripExit st .excluded t).holdCount = 0) := by
  have hexit : st.contributing = true ∧ ¬ StationState.excluded.contributing = true := ⟨h, by decide⟩
  simp only [tripExit]
  rw [if_pos hexit]
  split
  · exact ⟨rfl, rfl, rfl, fun _ => rfl, fun _ => rfl⟩
  · exact ⟨rfl, rfl, rfl, id, id⟩

/-- The unit after blocks other than its own: as it was, the station contributing if it did, or as an exclusion left it. -/
def TripFollows (w t : State) : Prop :=
  (t.trip = w.trip ∧ (t.life.state = w.life.state ∨ w.life.state.contributing = true ∧ t.life.state.contributing = true)) ∨
  t.life.state = .excluded ∧ w.life.state.contributing = true ∧
    ∃ st : StationState, st.contributing = true ∧ t.trip = tripExit st .excluded w.trip

theorem closeBlock_tripFollows {t : State} {b : CloseBlock} (hb : b ≠ .trip) (h : TripFollows w t) :
    TripFollows w (closeBlock c t b) := by
  cases b with
  | trip => contradiction
  | controller =>
    obtain ⟨y, hy, -, ht | ⟨hst, r, ht⟩ | ⟨hst, ht⟩⟩ := t.controllerClose_cases c <;> simp only [closeBlock, ht]
    · simpa [TripFollows, hy] using h
    · rcases h with ⟨htrip, hstate⟩ | ⟨hex, -⟩
      · refine .inr ⟨by simp, ?_, t.life.state, hst, by simp [hy, htrip]⟩
        rcases hstate with hstate | hstate
        · rwa [← hstate]
        · exact hstate.1
      · simp [hex, StationState.contributing] at hst
    · rcases h with ⟨htrip, hstate⟩ | ⟨hex, -⟩
      · refine .inl ⟨by simp [hy, hst, tripExit, StationState.contributing, htrip], .inr ⟨?_, by simp [StationState.contributing]⟩⟩
        rcases hstate with hstate | hstate
        · rw [← hstate, hst]; rfl
        · exact hstate.1
      · simp [hex] at hst
  | health | membership | replica | zones | timer => simpa [TripFollows, closeBlock] using h

theorem closeBlocks_tripFollows {bs : List CloseBlock} (h : .trip ∉ bs) : TripFollows w (bs.foldl (closeBlock c) w) := by
  have hfold (t : State) (ht : TripFollows w t) : TripFollows w (bs.foldl (closeBlock c) t) := by
    induction bs generalizing t with
    | nil => exact ht
    | cons b bs ih =>
      obtain ⟨hb, hbs⟩ := not_or.mp (mt List.mem_cons.mpr h)
      exact ih hbs _ (closeBlock_tripFollows (Ne.symm hb) ht)
  exact hfold w (.inl ⟨rfl, .inl rfl⟩)

end

/-! ## The unit after a close -/

section
variable {s : State} {c : Configuration} {o : CloseOrder} {row : Row}

theorem State.closeThrough_tripFollows (h : s.closes c o) :
    TripFollows (((s.tripDecides c o).decideOutput c).stepBf c) (s.closeThrough c o) := by
  obtain ⟨post, hpost, hsplit⟩ := s.closeThrough_split c h.valid .trip
  rw [hsplit]
  exact closeBlocks_tripFollows hpost

/-- The Trip Unit decides with the parts that the other blocks leave it. -/
theorem State.tripDecides_frame : (s.tripDecides c o).life = (s.closeBefore c o .trip).life ∧
    (s.tripDecides c o).membership = (s.closeBefore c o .trip).membership ∧
    (s.tripDecides c o).replica = (s.closeBefore c o .trip).replica ∧
    (s.tripDecides c o).zones = (s.closeBefore c o .trip).zones ∧
    (s.tripDecides c o).table = (s.closeBefore c o .trip).table ∧
    (s.tripDecides c o).acquisition = s.acquisition ∧
    (s.tripDecides c o).timer = (s.closeBefore c o .trip).timer := by
  simp [State.tripDecides, State.closeBefore]

/-- In a station that contributes after the close the unit is as its own step left it. -/
theorem State.closeThrough_trip (h : s.closes c o) (hst : (s.closeThrough c o).life.state.contributing = true) :
    (s.closeThrough c o).trip = (((s.tripDecides c o).decideOutput c).stepBf c).trip := by
  rcases State.closeThrough_tripFollows h with ⟨htrip, -⟩ | ⟨hex, -⟩
  · exact htrip
  · simp [hex, StationState.contributing] at hst

theorem State.closeThrough_measures (h : s.closes c o) :
    (s.closeThrough c o).trip.measures = (s.tripDecides c o).trip.measures ∧
    (s.closeThrough c o).trip.latched = ((s.tripDecides c o).decideOutput c).trip.latched := by
  obtain ⟨houtput, -, hmeasures⟩ := ((s.tripDecides c o).decideOutput c).stepBf_keeps c
  obtain ⟨-, -, hdecided⟩ := (s.tripDecides c o).decideOutput_keeps c
  have hlatched : (((s.tripDecides c o).decideOutput c).stepBf c).trip.latched =
      ((s.tripDecides c o).decideOutput c).trip.latched := congrArg (fun x => x.2.2) houtput
  rcases State.closeThrough_tripFollows h with ⟨htrip, -⟩ | ⟨-, -, st, hst, htrip⟩
  · rw [htrip]
    exact ⟨hmeasures.trans hdecided, hlatched⟩
  · obtain ⟨-, hm, hl, -⟩ := tripExit_excluded hst (((s.tripDecides c o).decideOutput c).stepBf c).trip
    rw [htrip]
    exact ⟨hm.trans (hmeasures.trans hdecided), hl.trans hlatched⟩

end

end Sys2Proof.Machine
end

section
/-! PROOFS. The cause set, the trip output and the breaker-failure timer at a close (R138 to R150). -/

namespace Sys2Proof.Machine

section
variable {s : State} {c : Configuration} {o : CloseOrder} {row : Row}

/-! ## The cause set (R140 to R142) -/

theorem namesZone_some (r : Row) (n : Nat) (z : Bus) : namesZone (some r) n z = (r.content n).any fun k => k.tripped.has z := by
  unfold namesZone
  cases h : r.content n <;> simp [h]

theorem namesZone_option (r : Option Row) (n : Nat) (z : Bus) :
    namesZone r n z = r.any fun r => (r.content n).any fun k => k.tripped.has z := by
  cases r with
  | none => rfl
  | some r => rw [namesZone_some]; rfl

/-- The stations that name a busbar zone TRIPPED in the row just closed or the one before (R140). -/
theorem confirmers_eq (t : RoundTable) (z : Bus) (es : List Entry) (hn : t.newest = some row) : confirmers c t z es =
    es.countP fun e => e.station != c.station && e.closing.state == .present &&
      ((row.content e.station).any (fun k => k.tripped.has z) ||
        t.older.any (fun r => (r.content e.station).any fun k => k.tripped.has z)) := by
  unfold confirmers isConfirmer
  congr 1
  funext e
  rw [hn, namesZone_some, namesZone_option]

theorem BusSet.meets_iff (x y : BusSet) : x.meets y = true ↔ ∃ bus, x.has bus = true ∧ y.has bus = true := by
  simp only [BusSet.meets, Bool.or_eq_true, Bool.and_eq_true]
  refine ⟨fun h => h.elim (fun h => ⟨.a, h⟩) fun h => ⟨.b, h⟩, fun ⟨bus, h⟩ => ?_⟩
  cases bus with
  | a => exact .inl h
  | b => exact .inr h

theorem isBfSource_eq {u : State} (hn : u.table.newest = some row) (n : Nat) : isBfSource c u n =
    (closingPresent u.membership.entries n && (row.content n).any (fun k => k.status.bf) &&
      (tripZonesIn u.replica.held n).meets (tripZonesIn u.replica.held c.station)) := by
  unfold isBfSource
  rw [hn]
  cases h : row.content n <;> simp [h]

theorem bfSourcesOf_congr {t u : State} (hm : t.membership = u.membership) (hr : t.replica = u.replica) (ht : t.table = u.table) :
    bfSourcesOf c t = bfSourcesOf c u := by
  unfold bfSourcesOf isBfSource
  rw [hm, hr, ht]

theorem mem_bfSourcesOf {u : State} (hn : u.table.newest = some row) (n : Nat) : n ∈ bfSourcesOf c u ↔
    n < 40 ∧ closingPresent u.membership.entries n = true ∧ (row.content n).any (fun k => k.status.bf) = true ∧
    ∃ bus, (tripZonesIn u.replica.held n).has bus = true ∧ (tripZonesIn u.replica.held c.station).has bus = true := by
  simp only [bfSourcesOf, List.mem_filter, List.mem_range, isBfSource_eq hn, Bool.and_eq_true, BusSet.meets_iff, and_assoc]

theorem bfSourcesOf_ascends (u : State) : (bfSourcesOf c u).Pairwise (· < ·) := List.pairwise_lt_range.filter _

theorem State.formCauses_contributing (h : s.life.state.contributing = true) :
    (s.formCauses c).trip.causes = (differentialCause c s, bfSourcesOf c s, confirmers c s.table .a s.membership.entries,
      confirmers c s.table .b s.membership.entries) := by
  simp [State.formCauses, h, TripUnit.causes]

theorem State.formCauses_idle (h : s.life.state.contributing = false) :
    (s.formCauses c).trip.causes = (BusSet.empty, [], 0, 0) := by
  simp [State.formCauses, h, TripUnit.causes]

theorem TripUnit.causes_eq {t : TripUnit} {z : BusSet} {ns : List Nat} {a b : Nat} : t.causes = (z, ns, a, b) ↔
    t.causeZones = z ∧ t.bfSources = ns ∧ t.confirmersA = a ∧ t.confirmersB = b := by
  simp [TripUnit.causes]

theorem TripUnit.output_eq {t : TripUnit} {e l : Bool} {h : Nat} : t.output = (e, h, l) ↔
    t.energised = e ∧ t.holdCount = h ∧ t.latched = l := by
  simp [TripUnit.output]

theorem TripUnit.timer_eq {t : TripUnit} {x : BfTimer} {n : Nat} {f : Bool} : t.timer = (x, n, f) ↔
    t.bfTimer = x ∧ t.bfCount = n ∧ t.bfFlag = f := by
  simp [TripUnit.timer]

/-! ## What the unit finds -/

theorem State.tripDecides_newest (hrow : s.table.openRow = some row) : (s.tripDecides c o).table.newest = some row := by
  rw [State.tripDecides_frame.2.2.2.2.1, State.closeBefore_newest hrow]

theorem State.tripDecides_older (hrow : s.table.openRow = some row) : (s.tripDecides c o).table.older = s.table.newest := by
  rw [State.tripDecides_frame.2.2.2.2.1, State.closeBefore, State.closeThrough_table hrow]

/-- The causes are formed from what the unit's state still holds when it decides. -/
theorem State.tripDecides_causes (hst : (s.tripDecides c o).life.state.contributing = true) :
    (s.tripDecides c o).trip.causes = (differentialCause c (s.tripDecides c o), bfSourcesOf c (s.tripDecides c o),
      confirmers c (s.tripDecides c o).table .a (s.tripDecides c o).membership.entries,
      confirmers c (s.tripDecides c o).table .b (s.tripDecides c o).membership.entries) := by
  rw [State.tripDecides_frame.1] at hst
  have hcauses := State.formCauses_contributing (c := c) (s := (s.closeBefore c o .trip).takePeak c) hst
  obtain ⟨-, hmembership, hreplica, hzones, htable, -, -⟩ := State.tripDecides_frame (s := s) (c := c) (o := o)
  refine hcauses.trans ?_
  rw [bfSourcesOf_congr (t := (s.closeBefore c o .trip).takePeak c) (hmembership.symm) hreplica.symm htable.symm]
  simp only [differentialCause, hmembership, hreplica, hzones, htable, State.takePeak_frame]

theorem State.closeThrough_picture (h : s.closes c o) : (s.closeThrough c o).replica = (s.tripDecides c o).replica ∧
    (s.closeThrough c o).zones = (s.tripDecides c o).zones := by
  obtain ⟨-, -, hreplica, hzones, -⟩ := State.tripDecides_frame (s := s) (c := c) (o := o)
  rw [hreplica, hzones]
  exact ⟨(State.closeBefore_written h.config h.valid (replica_writes c) (by decide)).symm,
    (State.closeBefore_written h.config h.valid (zones_writes c) (by decide)).symm⟩

theorem State.tripDecides_confirmation :
    (s.tripDecides c o).trip.effectiveConfirmation = effectiveConfirm c (s.tripDecides c o).membership.entries := by
  rw [State.tripDecides_frame.2.1]
  exact (((s.closeBefore c o .trip).takePeak c).formCauses_keeps c).2.2.2

theorem State.tripDecides_round (h : s.closes c o) : (s.tripDecides c o).timer.round = s.timer.round := by
  rw [State.tripDecides_frame.2.2.2.2.2.2, State.closeBefore_round h.config .trip]

/-- The station's causes after the close are those decided with, while it contributes. -/
theorem State.closeThrough_causes (h : s.closes c o) (hst : (s.closeThrough c o).life.state.contributing = true) :
    (s.closeThrough c o).trip.causes = (s.tripDecides c o).trip.causes := by
  rw [State.closeThrough_trip h hst, (((s.tripDecides c o).decideOutput c).stepBf_keeps c).2.1,
    ((s.tripDecides c o).decideOutput_keeps c).2.1]

/-- The output after the close is the one decided, while the station stays PRESENT. -/
theorem State.closeThrough_output (h : s.closes c o) (hst : (s.closeThrough c o).life.state.contributing = true) :
    (s.closeThrough c o).trip.output = ((s.tripDecides c o).decideOutput c).trip.output := by
  rw [State.closeThrough_trip h hst, (((s.tripDecides c o).decideOutput c).stepBf_keeps c).1]

/-- An output that the unit leaves DE-ENERGISED stays so to the end of the close, with its hold count of 0. -/
theorem State.closeThrough_off (h : s.closes c o) {l : Bool} {n : Nat}
    (hoff : ((s.tripDecides c o).decideOutput c).trip.output = (false, n, l)) :
    (s.closeThrough c o).trip.energised = false ∧ (s.closeThrough c o).trip.latched = l ∧
    (n = 0 → (s.closeThrough c o).trip.holdCount = 0) := by
  have houtput := (((s.tripDecides c o).decideOutput c).stepBf_keeps c).1.trans hoff
  obtain ⟨henergised, hhold, hlatched⟩ := TripUnit.output_eq.mp houtput
  rcases State.closeThrough_tripFollows h with ⟨htrip, -⟩ | ⟨-, -, st, hst, htrip⟩
  · rw [htrip]
    exact ⟨henergised, hlatched, fun hn => hhold.trans hn⟩
  · obtain ⟨-, -, hl, he, hh⟩ := tripExit_excluded hst (((s.tripDecides c o).decideOutput c).stepBf c).trip
    rw [htrip]
    exact ⟨he henergised, hl.trans hlatched, fun hn => hh (hhold.trans hn)⟩

/-- A record of the unit's step is in the Event List after the close. -/
theorem State.closeThrough_tripRecord (h : s.closes c o) {r : EventRecord}
    (hr : r ∈ (((s.tripDecides c o).decideOutput c).stepBf c).events.records) : r ∈ (s.closeThrough c o).events.records :=
  State.closeThrough_recorded h.valid .trip hr

end

/-- Settles O30: the unit's causes and output are decided on the state v, and the Controller's exit at the same close is all that can follow. -/
theorem outputDecided : Obligations.OutputDecided := by
  intro o s c row v h hrow hv es need published confirming tripZones
  subst hv
  obtain ⟨hreplica, hzones⟩ := State.closeThrough_picture h
  obtain ⟨hmeasures, hlatched⟩ := State.closeThrough_measures h
  have hneed : (s.tripDecides c o).trip.effectiveConfirmation = need := State.tripDecides_confirmation
  have hnewest := State.tripDecides_newest (c := c) (o := o) hrow
  have hconfirmers (bus : Bus) : confirmers c (s.tripDecides c o).table bus es = confirming bus := by
    rw [confirmers_eq _ _ _ hnewest, State.tripDecides_older hrow]
  refine ⟨s.closeThrough c o, exec_closePoint h, hreplica, hzones, hneed, ?_, fun hst => ?_, fun hst => ?_, fun hst => ?_,
    fun hoff hcause hst hown hst' => ?_, fun hoff hcause hst hown hroom => ?_, fun hoff hcause hno => ?_,
    fun hon hst' hhold => ?_, fun hon hcause hhold => ?_, fun hoff hcause => ?_⟩
  · exact (congrArg Prod.fst hmeasures).trans hneed
  · obtain ⟨hcause, hsources, ha, hb⟩ := TripUnit.causes_eq.mp (State.tripDecides_causes hst)
    rw [hcause, hsources]
    have hzone (own : Bool) (n : Nat) (st : ZoneState) :
        (own && st == .tripped && decide (need ≤ n)) = true ↔ own = true ∧ st = .tripped ∧ need ≤ n := by
      simp [and_assoc]
    refine ⟨ha.trans (hconfirmers .a), hb.trans (hconfirmers .b), ?_, ?_, fun n => mem_bfSourcesOf hnewest n, bfSourcesOf_ascends _⟩
    · rw [← hconfirmers .a]
      exact hzone _ _ _
    · rw [← hconfirmers .b]
      exact hzone _ _ _
  · rw [State.tripDecides_frame.1] at hst
    exact TripUnit.causes_eq.mp (State.formCauses_idle (s := (s.closeBefore c o .trip).takePeak c) hst)
  · exact TripUnit.causes_eq.mp (State.closeThrough_causes h hst)
  · have hout := State.closeThrough_output h (by rw [hst']; rfl)
    rw [State.decideOutput_energises c hoff hcause hst hown] at hout
    obtain ⟨he, hh, hl⟩ := TripUnit.output_eq.mp hout
    exact ⟨he, hh, hl⟩
  · refine State.closeThrough_tripRecord h ((State.stepBf_grows _ c).mem ?_)
    rw [State.decideOutput_energises c hoff hcause hst hown, ← State.tripDecides_round h (c := c) (o := o)]
    exact EventList.offer_mem _ hroom
  · have hstays := State.decideOutput_stays_off c hoff (.inr hno)
    obtain ⟨he, hl, -⟩ := State.closeThrough_off h (l := (s.tripDecides c o).trip.latched) (n := (s.tripDecides c o).trip.holdCount)
      (by rw [hstays]; simp [TripUnit.output, hoff])
    exact ⟨he, hl⟩
  · have hout := State.closeThrough_output h (by rw [hst']; rfl)
    rw [State.decideOutput_holds c hon hhold] at hout
    obtain ⟨he, hh, hl⟩ := TripUnit.output_eq.mp hout
    exact ⟨he, hh, hl⟩
  · obtain ⟨he, hl, hh⟩ := State.closeThrough_off h (State.decideOutput_releases c hon hcause hhold)
    exact ⟨he, hh rfl, hl⟩
  · have hstays := State.decideOutput_stays_off c hoff (.inl hcause)
    obtain ⟨he, hl, -⟩ := State.closeThrough_off h (l := (s.tripDecides c o).trip.latched) (n := (s.tripDecides c o).trip.holdCount)
      (by rw [hstays]; simp [TripUnit.output, hoff])
    exact ⟨he, hl⟩

end Sys2Proof.Machine
end

section
/-! PROOFS. The breaker-failure timer at a close (R138, R147 to R150). -/

namespace Sys2Proof.Machine

section
variable {s v : State} {c : Configuration} {o : CloseOrder}

/-! ## The own peak (R138) -/

theorem closeBlock_keeps_peaks (b : CloseBlock) : BlockKeeps c (fun u => u.trip.peakHistory) b := by
  intro u _
  cases b with
  | trip => exact (u.tripClose_holdsWindows c).peaks
  | controller => exact (u.controllerClose_holdsWindows c).peaks
  | health | membership | replica | zones | timer => simp [closeBlock]

/-- The own peak: the largest of the peak history. -/
theorem ownPeakOf_eq (es : List PeakEntry) : ownPeakOf c es =
    (es.map fun e => if e.quality = .valid then max e.currents.a.natAbs (max e.currents.b.natAbs e.currents.c.natAbs)
      else c.bfLevel).foldr max 0 := by
  rw [ownPeakOf, List.foldl_eq_foldr]
  congr 2
  funext e
  cases h : e.quality <;> simp [peakOf, largestMagnitude, h]

theorem State.tripDecides_ownPeak (hc : s.life.config = some c) :
    (s.tripDecides c o).trip.ownPeak = ownPeakOf c s.trip.peakHistory := by
  have hpeaks := State.closeThrough_kept (s := s) hc closeBlock_keeps_peaks (o.takeWhile (· != .trip))
  rw [State.tripDecides, (State.formCauses_keeps _ c).2.2.1]
  exact congrArg (ownPeakOf c) (hpeaks.trans (by simp))

/-! ## The timer's step, case by case -/

/-- A start condition holds: the output energised or the initiation ACTIVE (R147). -/
abbrev State.bfStarts (v : State) : Prop := v.trip.energised = true ∨ v.acquisition.initiation.value = true

theorem State.stepBf_starts (hst : v.life.state.contributing = true) (ht : v.trip.bfTimer = .idle) (hs : v.bfStarts)
    (hp : c.bfLevel ≤ v.trip.ownPeak) : v.stepBf c =
      ({ v with trip := { v.trip with bfTimer := .running, bfCount := c.bfTime } } : State).offer
        { kind := .bfStart, subject := c.station,
          detail := byte (startCondition v.trip.energised v.acquisition.initiation.value) :: bytes3 v.trip.ownPeak } := by
  have hstart : (v.trip.energised || v.acquisition.initiation.value) = true := by simpa using hs
  simp [State.stepBf, hst, ht, State.bfIdle, hstart, hp]

theorem State.stepBf_stays_idle (hst : v.life.state.contributing = true) (ht : v.trip.bfTimer = .idle)
    (hno : ¬ (v.bfStarts ∧ c.bfLevel ≤ v.trip.ownPeak)) : v.stepBf c = v := by
  have hoff : ¬ ((v.trip.energised || v.acquisition.initiation.value) && decide (c.bfLevel ≤ v.trip.ownPeak)) = true := by
    simpa using hno
  simp only [State.stepBf, hst, ht, if_true, State.bfIdle]
  rw [if_neg hoff]

theorem State.stepBf_returns (hst : v.life.state.contributing = true) (ht : v.trip.bfTimer = .running)
    (hno : ¬ c.bfLevel ≤ v.trip.ownPeak ∨ ¬ v.bfStarts) :
    v.stepBf c = { v with trip := { v.trip with bfTimer := .idle, bfCount := 0 } } := by
  have hends : v.trip.ownPeak < c.bfLevel ∨ ¬ v.trip.energised = true ∧ ¬ v.acquisition.initiation.value = true :=
    hno.imp Nat.not_le.mp not_or.mp
  simp only [State.stepBf, hst, ht, if_true, State.bfRunning]
  rw [if_pos hends]

section
variable (hst : v.life.state.contributing = true) (ht : v.trip.bfTimer = .running) (hp : c.bfLevel ≤ v.trip.ownPeak)
  (hs : v.bfStarts)
include hst ht hp hs

theorem State.stepBf_runs : v.stepBf c =
    if v.trip.bfCount - 1 = 0 then
      ({ v with trip := { v.trip with bfTimer := .expired, bfCount := 0, bfFlag := true } } : State).offer
        { kind := .bfExpired, subject := c.station, detail := bytes3 v.trip.ownPeak }
    else { v with trip := { v.trip with bfCount := v.trip.bfCount - 1 } } := by
  have hgoes : ¬ (v.trip.ownPeak < c.bfLevel ∨ ¬ v.trip.energised = true ∧ ¬ v.acquisition.initiation.value = true) := by
    rintro (hlow | ⟨he, hi⟩)
    · omega
    · exact hs.elim he hi
  simp only [State.stepBf, hst, ht, if_true, State.bfRunning]
  rw [if_neg hgoes]

end

theorem State.stepBf_clears (hst : v.life.state.contributing = true) (ht : v.trip.bfTimer = .expired)
    (hp : ¬ c.bfLevel ≤ v.trip.ownPeak) : v.stepBf c =
      ({ v with trip := { v.trip with bfTimer := .idle, bfCount := 0, bfFlag := false } } : State).offer
        { kind := .bfCleared, subject := c.station, detail := 1#8 :: bytes3 v.trip.ownPeak } := by
  simp only [State.stepBf, hst, ht, if_true, State.bfExpiredStep]
  rw [if_pos (Nat.not_le.mp hp)]

theorem State.stepBf_stays_expired (hst : v.life.state.contributing = true) (ht : v.trip.bfTimer = .expired)
    (hp : c.bfLevel ≤ v.trip.ownPeak) : v.stepBf c = v := by
  simp only [State.stepBf, hst, ht, if_true, State.bfExpiredStep]
  rw [if_neg (Nat.not_lt.mpr hp)]

/-! ## The timer after a close -/

/-- The timer's count after a close, in a station excluded by it, is 0; in any other that of the unit's step. -/
theorem State.closeThrough_timer (h : s.closes c o) :
    (s.closeThrough c o).trip.timer = (((s.tripDecides c o).decideOutput c).stepBf c).trip.timer ∨
    (s.closeThrough c o).trip.timer = (.idle, 0, false) := by
  rcases State.closeThrough_tripFollows h with ⟨htrip, -⟩ | ⟨-, -, st, hst, htrip⟩
  · exact .inl (by rw [htrip])
  · exact .inr (by rw [htrip, (tripExit_excluded hst _).1])

/-- A station that left JOINING and PRESENT at the close has its timer IDLE (R150). -/
theorem State.closeThrough_timer_cleared (h : s.closes c o)
    (hst : (((s.tripDecides c o).decideOutput c).stepBf c).life.state.contributing = true)
    (hout : (s.closeThrough c o).life.state.contributing = false) :
    (s.closeThrough c o).trip.timer = (.idle, 0, false) := by
  rcases State.closeThrough_tripFollows h with ⟨-, hstate | ⟨-, hin⟩⟩ | ⟨-, -, st, hex, htrip⟩
  · rw [hstate, hst] at hout; cases hout
  · rw [hin] at hout; cases hout
  · rw [htrip, (tripExit_excluded hex _).1]

theorem State.bringsExpiry_of (h : s.closes c o) (ht : (s.closeBefore c o .trip).trip.bfTimer = .running)
    (ht' : (((s.tripDecides c o).decideOutput c).stepBf c).trip.bfTimer = .expired) : s.bringsExpiry o = true := by
  refine State.closeBrings_of h ?_
  have hclose : ((s.closeBefore c o .trip).tripClose c).trip.bfTimer = .expired := ht'
  simp [ht, hclose]

theorem State.decided_timer : ((s.tripDecides c o).decideOutput c).trip.timer = (s.closeBefore c o .trip).trip.timer :=
  ((s.tripDecides c o).decideOutput_keeps c).1.trans (((s.closeBefore c o .trip).takePeak c).formCauses_keeps c).1

end

/-- Settles O31: the timer's step case by case, and the exit that can follow it at the same close. -/
theorem breakerFailureTimerSteps : Obligations.BreakerFailureTimerSteps := by
  intro o s c v h hv hst peak high start recorded stands
  have hround : v.timer.round = s.timer.round := by
    rw [← hv, (State.decideOutput_frame _ c).2.2.2.1, State.tripDecides_round h]
  have hdecided : v.trip.measures = (s.tripDecides c o).trip.measures := by
    rw [← hv]; exact ((s.tripDecides c o).decideOutput_keeps c).2.2
  have hmeasures := (State.closeThrough_measures h).1.trans hdecided.symm
  have hpeak : v.trip.ownPeak = (s.tripDecides c o).trip.ownPeak := congrArg Prod.snd hdecided
  have htimer : v.trip.timer = (s.closeBefore c o .trip).trip.timer := by rw [← hv]; exact State.decided_timer
  have hstands {timer : BfTimer} {count : Nat} {flag : Bool} (hw : (v.stepBf c).trip.timer = (timer, count, flag)) :
      stands (s.closeThrough c o) timer count flag := fun hin => by
    rw [← TripUnit.timer_eq, State.closeThrough_trip h hin, hv]
    exact hw
  have hrecorded {kind : EventKind} {detail : List Byte} {w : State} (hw : v.stepBf c = w.offer ⟨kind, c.station, detail⟩)
      (he : w.events = v.events) (hr : w.timer.round = v.timer.round) : recorded kind detail (s.closeThrough c o) := fun hroom => by
    refine State.closeThrough_tripRecord h ?_
    rw [hv, hw, State.offer_events, he, hr, hround]
    exact EventList.offer_mem _ hroom
  refine ⟨s.closeThrough c o, exec_closePoint h, ?_, congrArg Prod.snd hmeasures, fun ht hs hp => ?_, fun ht hno => ?_,
    fun ht hno => ?_, fun ht hp hs hcount => ?_, fun ht hp hs hcount => ?_, fun ht hp => ?_, fun ht hp => ?_, fun hout => ?_⟩
  · rw [hpeak, State.tripDecides_ownPeak h.config]
    exact ownPeakOf_eq _
  · have hstep := State.stepBf_starts hst ht hs hp
    exact ⟨hstands (by rw [hstep]; rfl), hrecorded hstep rfl rfl⟩
  · exact hstands (by rw [State.stepBf_stays_idle hst ht hno, ← ht]; rfl)
  · exact hstands (by rw [State.stepBf_returns hst ht hno]; rfl)
  · have hstep := State.stepBf_runs hst ht hp hs
    rw [if_neg (by omega)] at hstep
    exact hstands (by rw [hstep, ← ht]; rfl)
  · have hstep := State.stepBf_runs hst ht hp hs
    rw [if_pos (by omega)] at hstep
    have hbrings : s.bringsExpiry o = true :=
      State.bringsExpiry_of h ((congrArg Prod.fst htimer).symm.trans ht) (by rw [hv, hstep]; rfl)
    have hcleared : (s.closeThrough c o).trip.bfCount = 0 := by
      rcases State.closeThrough_timer h with hw | hw
      · rw [hv, hstep] at hw
        exact congrArg (fun x => x.2.1) hw
      · exact congrArg (fun x => x.2.1) hw
    exact ⟨live_closePoint h (test := fun u => u.bringsExpiry o) hbrings, hcleared, hstands (by rw [hstep]; rfl),
      hrecorded hstep rfl rfl⟩
  · have hstep := State.stepBf_clears hst ht hp
    exact ⟨hstands (by rw [hstep]; rfl), hrecorded hstep rfl rfl⟩
  · exact hstands (by rw [State.stepBf_stays_expired hst ht hp, ← ht]; rfl)
  · have hst' : ((((s.tripDecides c o).decideOutput c).stepBf c)).life.state.contributing = true := by
      rw [hv, (State.stepBf_frame v c).2.2.2.2.2.2.2.2.2.2.1]
      exact hst
    exact TripUnit.timer_eq.mp (State.closeThrough_timer_cleared h hst' hout)

end Sys2Proof.Machine
end

section
/-! PROOFS. The Controller's decision at a close, and the in-lanes' health at a check point (R49, R52, R163, R164, R168). -/

namespace Sys2Proof.Machine

section
variable {s u : State} {c : Configuration} {o : CloseOrder} {row : Row}

/-! ## What the Controller decides -/

theorem bump_reaches {cap n : Nat} (h : n + 1 = cap) : bump cap n = cap := by
  simp only [bump]
  split <;> omega

theorem State.closeBefore_controller_life (h : s.closes c o) : (s.closeBefore c o .controller).life = s.life :=
  (State.closeBefore_unwritten h.config (controller_writes_life c)).trans (by simp)

theorem State.controllerClose_promotes (hrow : u.table.newest = some row) (hst : u.life.state = .joining) (hclash : row.clash = false)
    (hconflict : row.conflict = false) (hreturned : (row.returnedOne || row.returnedTwo) = true)
    (hcount : u.life.joinCount + 1 = c.joinRounds) :
    u.controllerClose c = ({ u with life := u.life.joiningCounts c row } : State).promote := by
  have hnone : c.joinRounds ≠ 0 := by omega
  simp [State.controllerClose, hrow, hst, State.joiningClose, LifeCycle.joiningCounts, hclash, hconflict, hreturned,
    bump_reaches hcount, Ne.symm hnone]

/-- A third clash, or in JOINING the last conflict, excludes the station. -/
theorem State.controllerClose_excludes (hrow : u.table.newest = some row)
    (h : u.life.state.contributing = true ∧ row.clash = true ∧ u.life.clashCount = 2 ∨
      u.life.state = .joining ∧ row.conflict = true ∧ u.life.conflictCount + 1 = c.joinRounds) :
    u.life.state.contributing = true ∧
    ∃ y r, y.state = u.life.state ∧ y.config = u.life.config ∧ u.controllerClose c = ({ u with life := y } : State).exclude r := by
  have hjoining (hst : u.life.state = .joining) (hex : (u.life.joiningCounts c row).clashCount = 3 ∨
      (u.life.joiningCounts c row).conflictCount = c.joinRounds) :
      ∃ y r, y.state = u.life.state ∧ y.config = u.life.config ∧ u.controllerClose c = ({ u with life := y } : State).exclude r := by
    simp only [State.controllerClose, hrow, hst, State.joiningClose]
    by_cases h3 : (u.life.joiningCounts c row).clashCount = 3
    · exact ⟨u.life.joiningCounts c row, .clash, hst, rfl, if_pos h3⟩
    · rw [if_neg h3, if_pos (hex.resolve_left h3)]
      exact ⟨u.life.joiningCounts c row, .conflict, hst, rfl, rfl⟩
  rcases h with ⟨hst, hclash, hcount⟩ | ⟨hst, hconflict, hcount⟩
  · refine ⟨hst, ?_⟩
    cases hs : u.life.state with
    | joining => rw [← hs]; exact hjoining hs (.inl (by simp [LifeCycle.joiningCounts, hclash, hcount, bump]))
    | present =>
      refine ⟨{ u.life with clashCount := if row.clash then bump 3 u.life.clashCount else 0 }, .clash, hs, rfl, ?_⟩
      simp [State.controllerClose, hrow, hs, State.presentClose, hclash, hcount, bump]
    | _ => simp [hs, StationState.contributing] at hst
  · refine ⟨by rw [hst]; rfl, hjoining hst (.inr ?_)⟩
    simp [LifeCycle.joiningCounts, hconflict, bump_reaches hcount]

theorem State.bringsState_of (h : s.closes c o) {new : StationState} (hold : s.life.state ≠ new)
    (hnew : ((s.closeBefore c o .controller).controllerClose c).life.state = new) : s.bringsState new o = true := by
  refine State.closeBrings_of h ?_
  simp [State.closeBefore_controller_life h, hold, hnew]

/-! ## The output and the timer of an excluded station -/

/-- The output is energised in PRESENT alone, through the blocks before the Controller (R143). -/
theorem State.tripClose_energised (u : State) (c : Configuration) (h : (u.tripClose c).trip.energised = true) :
    u.trip.energised = true ∨ u.life.state = .present := by
  have hout := (((u.takePeak c).formCauses c).decideOutput c).stepBf_keeps c
  have henergised : (((u.takePeak c).formCauses c).decideOutput c).trip.energised = true :=
    (congrArg Prod.fst hout.1).symm.trans h
  have hform : ((u.takePeak c).formCauses c).trip.energised = u.trip.energised :=
    congrArg Prod.fst ((u.takePeak c).formCauses_keeps c).2.1
  rw [← hform]
  unfold State.decideOutput at henergised
  split at henergised
  · rename_i hon; exact .inl hon
  · split at henergised
    · rename_i hcause
      simp only [Bool.and_eq_true, beq_iff_eq] at hcause
      obtain ⟨⟨-, hpresent⟩, -⟩ := hcause
      exact .inr (by simpa using hpresent)
    · exact .inl henergised

theorem State.tripClose_timer_waits (u : State) (c : Configuration) (h : u.life.state.contributing = false) :
    (u.tripClose c).trip.timer = u.trip.timer := by
  have hwaits : u.tripClose c = ((u.takePeak c).formCauses c).decideOutput c := by
    simp [State.tripClose, State.stepBf, h]
  rw [hwaits, (State.decideOutput_keeps _ c).1, (State.formCauses_keeps _ c).1]
  rfl

/-- A block other than the Controller keeps the output to PRESENT. -/
theorem closeBlock_tripsWhilePresent {b : CloseBlock} (hb : b ≠ .controller) (h : u.tripsWhilePresent) :
    (closeBlock c u b).tripsWhilePresent := by
  cases b with
  | controller => contradiction
  | trip =>
    intro he
    rcases u.tripClose_energised c he with he | hst
    · simpa [closeBlock] using h he
    · simpa [closeBlock] using hst
  | health | membership | replica | zones | timer =>
    intro he
    simpa [closeBlock] using h (by simpa [closeBlock] using he)

theorem State.closeBefore_tripsWhilePresent (h : s.tripsWhilePresent) :
    (s.closeBefore c o .controller).tripsWhilePresent := by
  have hfold (bs : List CloseBlock) (hbs : .controller ∉ bs) (t : State) (ht : t.tripsWhilePresent) :
      (bs.foldl (closeBlock c) t).tripsWhilePresent := by
    induction bs generalizing t with
    | nil => exact ht
    | cons b bs ih =>
      obtain ⟨hb, hrest⟩ := not_or.mp (mt List.mem_cons.mpr hbs)
      exact ih hrest _ (closeBlock_tripsWhilePresent (Ne.symm hb) ht)
  refine hfold _ (fun hmem => ?_) _ (fun he => ?_)
  · simpa using List.mem_takeWhile_imp hmem
  · rw [(State.rowClosed_frame s c).2.2.2.2.2.2.2.2.1]
    exact h (by simpa using he)

/-- EXCLUDED, the output DE-ENERGISED and the BF timer IDLE. -/
def State.Released (t : State) : Prop :=
  t.life.state = .excluded ∧ t.trip.energised = false ∧ t.trip.timer = (.idle, 0, false)

theorem closeBlock_stays_released (t : State) (b : CloseBlock) (h : t.Released) : (closeBlock c t b).Released := by
  obtain ⟨hst, hoff, htimer⟩ := h
  cases b with
  | controller =>
    have hnot : ¬ t.life.state.contributing = true := by rw [hst]; decide
    obtain ⟨y, hy, -, ht | ⟨hcon, -⟩ | ⟨hjoin, -⟩⟩ := t.controllerClose_cases c
    · rw [closeBlock, ht]
      exact ⟨hy.trans hst, hoff, htimer⟩
    · exact (hnot hcon).elim
    · simp [hst] at hjoin
  | trip =>
    refine ⟨by simpa [closeBlock] using hst, ?_, ?_⟩
    · rw [Bool.eq_false_iff]
      intro he
      rcases t.tripClose_energised c he with he | hp
      · simp [hoff] at he
      · simp [hst] at hp
    · exact (t.tripClose_timer_waits c (by rw [hst]; rfl)).trans htimer
  | health | membership | replica | zones | timer =>
    exact ⟨by simpa [closeBlock] using hst, by simpa [closeBlock] using hoff, by simpa [closeBlock] using htimer⟩

theorem State.exclude_released {y : LifeCycle} (hy : y.state = u.life.state) (hst : u.life.state.contributing = true)
    (hu : u.tripsWhilePresent) (r : StationReason) : (({ u with life := y } : State).exclude r).Released := by
  obtain ⟨htimer, -, -, hoff, -⟩ := tripExit_excluded hst u.trip
  refine ⟨by simp, ?_, by simpa [hy] using htimer⟩
  simp only [State.exclude_trip, hy, tripExit_energised]
  split
  · rfl
  · rename_i hp
    rw [Bool.eq_false_iff]
    exact fun he => hp ⟨hu he, by decide⟩

/-! ## The queues of an excluded station (R52) -/

theorem LaneState.dropOwn_queue {x y : LaneState} (hq : y.queue = x.queue)
    (ht : y.transmitter = .sending ↔ x.transmitter = .sending) : y.dropOwn.queue = x.dropOwn.queue := by
  have hdrop (z : LaneState) : z.dropOwn.queue = if z.transmitter = .sending then
      (match z.queue with | f :: rest => f :: rest.filter (fun g => !g.isOwnContrib) | [] => [])
      else z.queue.filter (fun g => !g.isOwnContrib) := by
    unfold LaneState.dropOwn
    cases hz : z.transmitter <;> cases hzq : z.queue <;> simp
  rw [hdrop, hdrop, hq]
  simp only [ht]

theorem LaneState.cleared_sending (x : LaneState) : x.cleared.transmitter = .sending ↔ x.transmitter = .sending := by
  unfold LaneState.cleared
  split
  · rename_i hidle; simp [hidle]
  · rfl

/-- The Controller alone cuts the queues at a close. -/
theorem controller_writes_queue (l : Lane) :
    OnlyWriter c (fun t => ((t.lane l).queue, (t.lane l).dropOwn.queue)) .controller := by
  intro b hb t _
  cases b with
  | controller => contradiction
  | health =>
    have hlane : (closeBlock c t .health).lane l = (t.checkHealth c).lane l :=
      State.lane_eq _ _ (by simp [closeBlock, State.healthClose]) l
    obtain ⟨-, hqueue, htransmitter, -⟩ := (t.lane l).health_frame c
    simp only [hlane, State.checkHealth_lane]
    split
    · have hq : ((t.lane l).health c).cleared.queue = (t.lane l).queue := by simp [hqueue]
      rw [hq, LaneState.dropOwn_queue hq (((t.lane l).health c).cleared_sending.trans (by rw [htransmitter]))]
    · rw [hqueue, LaneState.dropOwn_queue hqueue (by rw [htransmitter])]
  | membership | replica | zones | trip | timer => beta_reduce; rw [closeBlock_lane t (by decide) (by decide)]

theorem State.exclude_lane (t : State) (r : StationReason) (l : Lane) : (t.exclude r).lane l = (t.lane l).dropOwn := by
  rw [State.lane_eq _ { t with ring := { one := t.ring.one.dropOwn, two := t.ring.two.dropOwn } } (by simp [State.exclude])]
  cases l <;> rfl

end

/-- Settles O32: what the Controller decides on the closed row, and what the blocks after it keep. -/
theorem stationPromotedOrExcluded : Obligations.StationPromotedOrExcluded := by
  refine ⟨fun o s c row h hrow hst hclash hconflict hreturned hcount => ?_, fun o s c row h hrow hcause hpresent => ?_⟩
  · have hlife := State.closeBefore_controller_life h
    have hstep := State.controllerClose_promotes (State.closeBefore_newest (c := c) (o := o) hrow .controller) (by rw [hlife, hst])
      hclash hconflict hreturned (by rw [hlife]; exact hcount)
    have hwritten := State.closeThrough_written h.config h.valid (controller_writes_life c)
    rw [closeBlock, hstep, State.promote, State.transition, State.enter_life] at hwritten
    have hbrings : s.bringsState .present o = true := State.bringsState_of h (by simp [hst]) (by rw [hstep]; simp)
    refine ⟨s.closeThrough c o, live_closePoint h (test := fun u => u.bringsState .present o) hbrings, by rw [hwritten],
      by rw [hwritten], by rw [hwritten], fun e he hn => ?_⟩
    have hfollows : (s.closeThrough c o).ownEntryFollows := by
      obtain ⟨post, -, hsplit⟩ := s.closeThrough_split c h.valid .controller
      rw [hsplit]
      refine (closeBlocks_preserve (P := fun u => u.life.config = some c ∧ u.ownEntryFollows)
        (fun u b hu => ⟨by rw [closeBlock_config, hu.1], closeBlock_own hu.2 hu.1 b⟩) post ⟨?_, ?_⟩).2
      · rw [closeBlock_config, State.closeBefore_config, h.config]
      · rw [closeBlock, hstep]
        exact State.transition_own _ _ _ _
    rw [hfollows e he (hn.trans (State.ownNumber_configured (by rw [State.closeThrough_config, h.config])).symm), hwritten]
    rfl
  · have hlife := State.closeBefore_controller_life h
    obtain ⟨hst, y, r, hy, -, hstep⟩ := State.controllerClose_excludes
      (State.closeBefore_newest (c := c) (o := o) hrow .controller) (u := s.closeBefore c o .controller) (by rw [hlife]; exact hcause)
    have hreleased : (s.closeThrough c o).Released := by
      obtain ⟨post, -, hsplit⟩ := s.closeThrough_split c h.valid .controller
      rw [hsplit, closeBlock, hstep]
      exact closeBlocks_preserve closeBlock_stays_released post
        (State.exclude_released hy hst (State.closeBefore_tripsWhilePresent hpresent) r)
    obtain ⟨hexcluded, hoff, htimer⟩ := hreleased
    obtain ⟨hidle, -, hflag⟩ := TripUnit.timer_eq.mp htimer
    have hclock := State.closeThrough_kept (s := s) h.config closeBlock_keeps_clock o
    have hne : s.life.state ≠ .excluded := by
      rw [hlife] at hst
      intro hs
      rw [hs] at hst
      cases hst
    have hbrings : s.bringsState .excluded o = true := State.bringsState_of h hne (by rw [hstep]; simp)
    refine ⟨s.closeThrough c o, live_closePoint h (test := fun u => u.bringsState .excluded o) hbrings, hexcluded, hoff, hflag,
      hidle, congrArg Prod.fst hclock, fun l => ?_⟩
    have hfound := congrArg Prod.snd (State.closeBefore_unwritten (s := s) (o := o) h.config (controller_writes_queue (c := c) l))
    have hafter := congrArg Prod.fst (State.closeThrough_written (s := s) h.config h.valid (controller_writes_queue (c := c) l))
    beta_reduce at hfound hafter
    rw [State.rowClosed_lane] at hfound
    rw [closeBlock, hstep, State.exclude_lane] at hafter
    exact hafter.trans hfound

end Sys2Proof.Machine
end

section
/-! PROOFS. The health of the in-lanes at a check point (R49). -/

namespace Sys2Proof.Machine

section
variable {s u : State} {c : Configuration} {o : CloseOrder} {l : Lane}

/-! ## The parts of a lane that only a check point moves at a close -/

/-- The in-lane side that R49 decides on. -/
def LaneState.line (x : LaneState) : Bool × Nat × Nat × Bool × LaneCounters := (x.up, x.silentRun, x.liveRun, x.goodSeen, x.counters)

/-- The out-lane side of a line clear request (R47). -/
def LaneState.request (x : LaneState) : Bool × Transmitter := (x.clearPending, x.transmitter)

/-- A line clear is asked for on this out-lane, or runs. -/
def LaneState.Asked (x : LaneState) : Prop := x.clearPending = true ∨ x.transmitter = .clearing

theorem LaneState.asked_of_request {x y : LaneState} (h : y.request = x.request) (hx : x.Asked) : y.Asked := by
  obtain ⟨hpending, htransmitter⟩ := Prod.mk.inj h
  unfold LaneState.Asked
  rwa [hpending, htransmitter]

theorem LaneState.line_eq {x y : LaneState} (h : x.line = y.line) : x.up = y.up ∧ x.silentRun = y.silentRun ∧
    x.liveRun = y.liveRun ∧ x.goodSeen = y.goodSeen ∧ x.counters = y.counters := by
  simpa only [LaneState.line, Prod.mk.injEq] using h

theorem State.checkHealth_line (s : State) (c : Configuration) (l : Lane) :
    ((s.checkHealth c).lane l).line = ((s.lane l).health c).line := by
  rw [State.checkHealth_lane]
  split
  · simp [LaneState.line]
  · rfl

/-- A lane that comes UP asks for a line clear on its partner (R49). -/
theorem State.checkHealth_asks (h : (s.lane l).rises c = true) : ((s.checkHealth c).lane (partner l)).Asked := by
  have hpartner : partner (partner l) = l := by cases l <;> rfl
  rw [State.checkHealth_lane, hpartner, if_pos h]
  exact LaneState.cleared_asks _

/-- The Ring Interface alone writes a lane's line and line clear request at a close. -/
theorem health_writes_line (l : Lane) : OnlyWriter c (fun t => ((t.lane l).line, (t.lane l).request)) .health := by
  intro b hb t _
  cases b with
  | health => contradiction
  | controller =>
    obtain ⟨-, htransmitter, hpending, hup, hsilent, hlive, hgood, hcounters⟩ := (t.lane l).dropOwn_frame
    rcases t.controllerClose_lane c with hlane | hlane
    · simp only [closeBlock, hlane]
    · simp only [closeBlock, hlane, LaneState.line, LaneState.request, htransmitter, hpending, hup, hsilent, hlive, hgood, hcounters]
  | membership | replica | zones | trip | timer => beta_reduce; rw [closeBlock_lane t (by decide) (by decide)]

/-! ## A lane after a check point -/

theorem LaneState.health_of_line {x y : LaneState} (h : x.line = y.line) : (x.health c).line = (y.health c).line := by
  obtain ⟨hup, hsilent, hlive, hgood, hcounters⟩ := LaneState.line_eq h
  unfold LaneState.health LaneState.line
  simp only [hup, hsilent, hlive, hgood]
  repeat' split
  all_goals simp_all

theorem LaneState.rises_of_line {x y : LaneState} (h : x.line = y.line) : x.rises c = y.rises c := by
  unfold LaneState.rises
  rw [(LaneState.line_eq h).1, (LaneState.line_eq (LaneState.health_of_line (c := c) h)).1]

/-- What a check point leaves of a lane: its health, and a line clear asked for by a partner that comes UP (R49). -/
def State.CheckedLane (s : State) (c : Configuration) (t : State) (l : Lane) : Prop :=
  (t.lane l).line = ((s.lane l).health c).line ∧ ((s.lane l).rises c = true → (t.lane (partner l)).Asked)

theorem State.checkedLane_of_ring {t : State} (hu : u.ring = s.ring) (ht : t.ring = (u.checkHealth c).ring) (l : Lane) :
    s.CheckedLane c t l := by
  have hlane (m : Lane) := State.lane_eq _ _ ht m
  refine ⟨?_, fun h => ?_⟩
  · rw [hlane, State.checkHealth_line, State.lane_eq _ _ hu]
  · rw [hlane]
    exact State.checkHealth_asks (by rwa [State.lane_eq _ _ hu])

theorem State.closePoint_checked (h : s.closes c o) (l : Lane) : s.CheckedLane c (s.closePoint o) l := by
  have hring (t : State) (m : Lane) : (closeBlock c t .health).lane m = (t.checkHealth c).lane m :=
    State.lane_eq _ _ (by simp [closeBlock, State.healthClose]) m
  have hafter (m : Lane) := State.closeThrough_written (s := s) h.config h.valid (health_writes_line (c := c) m)
  have hfound := State.closeBefore_unwritten (s := s) (o := o) h.config (health_writes_line (c := c) l)
  simp only [Prod.mk.injEq, State.rowClosed_lane] at hfound
  simp only [Prod.mk.injEq, hring] at hafter
  rw [State.closePoint_of h]
  refine ⟨?_, fun hrises => ?_⟩
  · rw [(hafter l).1, State.checkHealth_line, LaneState.health_of_line hfound.1]
  · exact LaneState.asked_of_request (hafter (partner l)).2
      (State.checkHealth_asks (by rwa [LaneState.rises_of_line hfound.1]))

/-- Every local mark takes the lanes through one check of their health (R2, R49). -/
theorem State.localMark_ring (x : BayLines) (hm : s.timer.mode = .localMarks) (hc : s.life.config = some c) :
    ∃ u : State, u.ring = s.ring ∧ (s.localMark x).ring = (u.checkHealth c).ring := by
  have hblocks (u : State) (hu : u.ring = s.ring) :
      ∃ v : State, v.ring = s.ring ∧ (u.localMarkBlocks c x).ring = (v.checkHealth c).ring :=
    ⟨_, by simp [hu], congrArg State.ring (State.localMarkBlocks.eq_1 u c x)⟩
  by_cases hsettles : s.settlesNext = true
  · rw [State.localMark_settles x hm hc hsettles, State.settle]
    simp only [State.enter_frame]
    exact hblocks _ (by simp [State.passTo])
  · rw [Bool.not_eq_true] at hsettles
    by_cases hnumbers : s.numbersNext c = true
    · rw [State.localMark_numbers x hm hc hsettles hnumbers, State.startNumbering]
      simp only [State.enter_frame]
      exact ⟨_, by simp [State.passTo], rfl⟩
    · rw [State.localMark_stays x hm hc hsettles (Bool.not_eq_true _ ▸ hnumbers)]
      simp only [State.offerAll_frame]
      exact hblocks _ (by simp [State.passTo])

theorem State.localMark_checked (x : BayLines) (hm : s.timer.mode = .localMarks) (hc : s.life.config = some c) (l : Lane) :
    s.CheckedLane c (s.localMark x) l := by
  obtain ⟨u, hu, hring⟩ := State.localMark_ring x hm hc
  exact State.checkedLane_of_ring hu hring l

theorem State.checkPoint_checked {p : CheckPoint} (h : s.checks c p) (l : Lane) : s.CheckedLane c (s.checkPoint p) l := by
  cases p with
  | close o => exact State.closePoint_checked h l
  | localMark x =>
    obtain ⟨-, hc, hm⟩ := h
    exact State.localMark_checked x hm hc l

theorem State.checks_powered {p : CheckPoint} (h : s.checks c p) : s.powered = true := by
  cases p with
  | close o => exact h.1
  | localMark x => exact h.1

end

/-- Settles O33: the check point decides on the lane's line, and nothing else at a close or a local mark touches it. -/
theorem linkHealthChanges : Obligations.LinkHealthChanges := by
  intro l p s c h
  have hp := State.checks_powered h
  obtain ⟨hline, hasks⟩ := State.checkPoint_checked h l
  refine ⟨fun hup hgood hsilent => ?_, fun hup hgood hlive => ?_⟩
  · have hhealth : (s.lane l).health c = { s.lane l with up := false, silentRun := 0, liveRun := 0, goodSeen := false } := by
      simp [LaneState.health, hup, hgood, Nat.not_lt.mpr hsilent]
    rw [hhealth] at hline
    obtain ⟨hdown, hsilent', hlive', hgood', hcounters⟩ := LaneState.line_eq hline
    have htest : ((s.lane l).up && !((s.checkPoint p).lane l).up) = true := by rw [hup, hdown]; rfl
    exact ⟨s.checkPoint p, (live_powered hp).trans (by rw [if_pos htest]), hdown, hsilent', hlive', hgood', hcounters⟩
  · have hhealth : (s.lane l).health c = { s.lane l with up := true, silentRun := 0, liveRun := 0, goodSeen := false } := by
      simp [LaneState.health, hup, hgood, hlive]
    have hrises : (s.lane l).rises c = true := by simp [LaneState.rises, hup, hhealth]
    rw [hhealth] at hline
    obtain ⟨hup', hsilent', hlive', hgood', -⟩ := LaneState.line_eq hline
    have htest : (!(s.lane l).up && ((s.checkPoint p).lane l).up) = true := by rw [hup, hup']; rfl
    exact ⟨s.checkPoint p, (live_powered hp).trans (by rw [if_pos htest]), hup', hlive', hsilent', hgood', hasks hrises⟩

end Sys2Proof.Machine
end

section
/-! PROOFS. A frame that arrives, from its last character to the block that takes it, and a CONTRIB accepted (R41 to R44, R63). -/

namespace Sys2Proof.Machine

section
variable {s : State} {c : Configuration} {l : Lane} {chars bs : List Byte}

/-! ## The end of a frame -/

/-- The station once a good frame of another station has been forwarded. -/
def State.forwarded (s : State) (l : Lane) (bs : List Byte) : State := (s.mapLane l LaneState.accept).forwardFrame l bs

/-- Forwarding a frame changes the lane it came by, and nothing else. -/
theorem State.forwarded_eq (s : State) (l : Lane) (bs : List Byte) :
    s.forwarded l bs = s.setLane l ((s.lane l).accept.passedOn s.dress s.now bs) := by
  rw [State.forwarded, State.forwardFrame_eq, State.lane_mapLane, if_pos rfl, State.mapLane, State.setLane_setLane,
    State.setLane_dress]
  rfl

theorem exec_contribReceived (h : s.takesIn l chars bs) (hg : goodContribBytes bs) :
    exec (.contribReceived l chars) s = .next ((s.mapLane l LaneState.accept).goodContrib l bs) := by
  obtain ⟨hp, hreceives, hgathered⟩ := h
  obtain ⟨hlead, hlength, hcrc⟩ := hg
  have hhead : bs.getD 0 0 = leadContrib := by cases bs <;> simp_all
  refine (live_powered (f := fun s => s.frameChars l leadContrib 24 chars) hp).trans (congrArg _ ?_)
  simp only [State.frameChars, hgathered, hreceives, hlead, hlength, State.frameEnds, hcrc, hhead]
  simp

theorem exec_leaveReceived (h : s.takesIn l chars bs) (hg : goodLeaveBytes bs) :
    exec (.leaveReceived l chars) s = .next ((s.mapLane l LaneState.accept).goodLeave l bs) := by
  obtain ⟨hp, hreceives, hgathered⟩ := h
  obtain ⟨hlead, hlength, hcrc⟩ := hg
  have hhead : bs.getD 0 0 ≠ leadContrib := by
    cases bs with
    | nil => simp at hlead
    | cons b bs =>
      have hb : b = leadLeave := by simpa using hlead
      simp [hb, leadLeave, leadContrib]
  refine (live_powered (f := fun s => s.frameChars l leadLeave 12 chars) hp).trans (congrArg _ ?_)
  simp only [State.frameChars, hgathered, hreceives, hlead, hlength, State.frameEnds, hcrc, hhead]
  simp

theorem State.goodContrib_peer (h : frameOrigin bs ≠ s.ownNumber) :
    (s.mapLane l LaneState.accept).goodContrib l bs = (s.forwarded l bs).handContrib l (readContrib bs) := if_neg h

theorem State.goodLeave_peer (h : frameOrigin bs ≠ s.ownNumber) :
    (s.mapLane l LaneState.accept).goodLeave l bs = (s.forwarded l bs).handLeave (readLeave bs) := if_neg h

/-- In LISTEN with a numbered timer, and in JOINING, PRESENT and LEAVING, a CONTRIB goes to the Round Table (R44). -/
theorem State.handContrib_arrival (hc : s.life.config = some c)
    (h : s.life.state.working = true ∨ s.life.state = .listen ∧ s.timer.mode = .numbered) (f : Contrib) :
    s.handContrib l f = s.contribArrival c l f := by
  simp only [State.handContrib, hc]
  rcases h with h | ⟨h, hm⟩
  · cases hs : s.life.state <;> simp [hs, StationState.working] at h ⊢
  · simp [h, hm]

/-- A good CONTRIB of a peer, where the Round Table takes it. -/
theorem exec_contribArrival (h : s.takesIn l chars bs) (hg : goodContribBytes bs) (hc : s.life.config = some c)
    (hst : s.life.state.working = true ∨ s.life.state = .listen ∧ s.timer.mode = .numbered)
    (hpeer : (readContrib bs).origin ≠ c.station) :
    exec (.contribReceived l chars) s = .next ((s.forwarded l bs).contribArrival c l (readContrib bs)) := by
  have horigin : frameOrigin bs ≠ s.ownNumber := by rw [State.ownNumber_configured hc]; exact hpeer
  rw [exec_contribReceived h hg, State.goodContrib_peer horigin, State.handContrib_arrival (c := c)]
  · rw [State.forwarded_eq]; exact hc
  · rw [State.forwarded_eq]; exact hst

theorem State.forwarded_lane (s : State) (l : Lane) (bs : List Byte) :
    ((s.forwarded l bs).lane l).receiver = .hunt ∧ ((s.forwarded l bs).lane l).goodSeen = true ∧
    ((s.forwarded l bs).lane l).counters.goodFrames = bump16 (s.lane l).counters.goodFrames := by
  rw [State.forwarded_eq, State.lane_setLane_same]
  simp [LaneState.accept]

theorem State.mapEntry_entry {n : Nat} {e : Entry} (he : s.entry n = some e) (g : Entry → Entry)
    (hg : ∀ e, (g e).station = e.station) : (s.mapEntry n g).entry n = some (g e) := by
  rw [State.entry_mapEntry_same hg, he]
  rfl

/-! ## The class of an arrival (R60 to R64) -/

section
variable {f : Contrib} {e : Entry} {row : Row}

theorem State.contribArrival_offRoster (he : s.entry f.origin = none) :
    s.contribArrival c l f = s.countTable (fun t => { t with offRoster := bump16 t.offRoster }) := by
  simp [State.contribArrival, he]

theorem State.contribArrival_refused (he : s.entry f.origin = some e) (hsum : s.life.checksum ≠ some f.checksum) :
    s.contribArrival c l f = s.refuseArrival f e := by
  simp [State.contribArrival, he, hsum]

variable (he : s.entry f.origin = some e) (hsum : s.life.checksum = some f.checksum)
include he hsum

theorem State.contribArrival_stale (hstale : e.staleFor f.round = true) :
    s.contribArrival c l f = s.mapEntry f.origin (fun e => { e with stale := bump8 e.stale }) := by
  simp [State.contribArrival, he, hsum, hstale]

variable (hstale : e.staleFor f.round = false) (hrow : s.table.openRow = some row)
include hstale hrow

theorem State.contribArrival_slot (hround : row.round = f.round) : s.contribArrival c l f = s.slotArrival c l f row := by
  simp [State.contribArrival, he, hsum, hstale, hrow, hround]

theorem State.contribArrival_late (hround : row.round ≠ f.round)
    (hclosed : (holdsRound s.table.newest f.round || holdsRound s.table.older f.round) = true) :
    s.contribArrival c l f = s.mapEntry f.origin (fun e => { e with late := bump8 e.late }) := by
  simp only [State.contribArrival, he, hsum, hstale, hrow, hround, hclosed]
  simp

theorem State.contribArrival_outOfWindow (hround : row.round ≠ f.round)
    (hclosed : (holdsRound s.table.newest f.round || holdsRound s.table.older f.round) = false) :
    s.contribArrival c l f = s.outOfWindowArrival c f := by
  simp only [State.contribArrival, he, hsum, hstale, hrow, hround, hclosed]
  simp

end

theorem holdsRound_iff {row : Option Row} {r : Round} : holdsRound row r = true ↔ ∃ x, row = some x ∧ x.round = r := by
  cases row <;> simp [holdsRound]

end

/-- Settles O34: the CONTRIB goes through the lane to the Round Table, whose open row has room for it. -/
theorem contribAccepted : Obligations.ContribAccepted := by
  intro l chars bs s c e row htakes hgood hc hst hpeer he hsum hstale hrow hround hempty hslot
  have hexec := exec_contribArrival htakes hgood hc (.inl hst) hpeer
  obtain ⟨hreceiver, hgoodSeen, hgoodFrames⟩ := s.forwarded_lane l bs
  generalize readContrib bs = f at *
  obtain ⟨x, hx⟩ : ∃ x, s.forwarded l bs = s.setLane l x := ⟨_, s.forwarded_eq l bs⟩
  rw [hx] at hexec hreceiver hgoodSeen hgoodFrames
  have harrival : (s.setLane l x).contribArrival c l f = (s.setLane l x).acceptArrival c l f := by
    rw [State.contribArrival_slot (s := s.setLane l x) he hsum hstale hrow hround, State.slotArrival, hempty]
  rw [harrival] at hexec
  refine ⟨_, row.setBody f.origin (.filled f.content (some { lane := l, lead := s.leadOf c f.round f.age })),
    { e with lastKnown := some f.content.status }, hexec, ?_, ?_, fun n hn => Row.body_setBody_ne _ _ _ _ hn, ?_, rfl,
    hreceiver, hgoodSeen, hgoodFrames, rfl, rfl, rfl, rfl, rfl, rfl, rfl, rfl, rfl, rfl, rfl⟩
  · exact congrArg (Option.map _) hrow
  · rw [Row.body_setBody_same _ _ _ hslot]
    simp [State.leadOf, peerElapsed]
  · exact State.mapEntry_entry (s := (s.setLane l x).mapOpen _) he (fun e => { e with lastKnown := some f.content.status })
      fun _ => rfl

end Sys2Proof.Machine
end

section
/-! PROOFS. The class of an arrival that is not accepted (R60 to R64, R83, R88). -/

namespace Sys2Proof.Machine

section
variable {s : State} {c : Configuration} {l : Lane} {f : Contrib} {e : Entry} {row : Row}

/-- What an arrival leaves alone but in a recapture: all but the rows, the records and the sender's entry. -/
def State.ArrivalKeeps (s t : State) (n : Nat) : Prop :=
  t.timer = s.timer ∧ t.acquisition = s.acquisition ∧ t.replica = s.replica ∧ t.zones = s.zones ∧ t.trip = s.trip ∧
  t.life = s.life ∧ t.supply = s.supply ∧ t.link = s.link ∧ ∀ m, m ≠ n → t.entry m = s.entry m

theorem State.mapEntry_keeps (s : State) (n : Nat) {g : Entry → Entry} (hg : ∀ e, (g e).station = e.station) :
    s.ArrivalKeeps (s.mapEntry n g) n :=
  ⟨rfl, rfl, rfl, rfl, rfl, rfl, rfl, rfl, fun _ hm => State.entry_mapEntry_ne hg hm⟩

theorem State.changeEntry_entry {g : Entry → Entry} (n : Nat) :
    (s.changeEntry e g).entry n = (s.mapEntry e.station g).entry n := State.entry_congr (by simp [State.changeEntry]) n

theorem State.changeEntry_entry_same {g : Entry → Entry} (hg : ∀ e, (g e).station = e.station) (he : s.entry f.origin = some e) :
    (s.changeEntry e g).entry f.origin = some (g e) := by
  rw [State.changeEntry_entry, State.entry_station he, State.entry_mapEntry_same hg, he]
  rfl

theorem State.changeEntry_keeps {n : Nat} {g : Entry → Entry} (hg : ∀ e, (g e).station = e.station) (he : s.entry n = some e) :
    s.ArrivalKeeps (s.changeEntry e g) n := by
  have hentry (m : Nat) (hm : m ≠ n) : (s.changeEntry e g).entry m = s.entry m := by
    rw [State.changeEntry_entry, State.entry_station he]
    exact State.entry_mapEntry_ne hg hm
  exact ⟨by simp, by simp, by simp, by simp, by simp, by simp, by simp, by simp, hentry⟩

/-! ## Refused -/

theorem entryDraft_refuse (e : Entry) : entryDraft e e.refuse = if e.state = .refused then [] else
    [{ kind := .entryState, subject := e.station, detail := [byte e.state.code, byte EntryState.refused.code] }] := by
  unfold entryDraft Entry.refuse
  by_cases hr : e.state = .refused <;> simp [hr]

theorem State.changeEntry_refuse_events (he : s.entry f.origin = some e) : (s.changeEntry e Entry.refuse).events =
    if e.state = .refused then s.events else s.events.offer
      { kind := .entryState, round := s.timer.round, subject := f.origin,
        detail := [byte e.state.code, byte EntryState.refused.code] } := by
  rw [State.changeEntry, entryDraft_refuse, State.entry_station he]
  split <;> rfl

/-- A refused arrival: the sender's entry, its record, and the open row's conflict (R60, R83). -/
theorem State.refuseArrival_spec (he : s.entry f.origin = some e) (hrow : s.table.openRow = some row) :
    s.ArrivalKeeps (s.refuseArrival f e) f.origin ∧
    (s.refuseArrival f e).table =
      { s.table with openRow := some (if f.content.sender = .present then { row with conflict := true } else row) } ∧
    (s.refuseArrival f e).entry f.origin = some e.refuse ∧
    (s.refuseArrival f e).events = (s.changeEntry e Entry.refuse).events := by
  have hkeeps := State.changeEntry_keeps Entry.refuse_station he
  have hentry := State.changeEntry_entry_same Entry.refuse_station he
  have htable : (s.changeEntry e Entry.refuse).table = s.table := by simp
  unfold State.refuseArrival
  dsimp only
  split
  · refine ⟨hkeeps, ?_, hentry, rfl⟩
    simp [State.mapOpen, hrow]
  · refine ⟨hkeeps, ?_, hentry, rfl⟩
    rw [htable, ← hrow]

/-! ## A second copy -/

theorem State.disputeArrival_spec (he : s.entry f.origin = some e) (hrow : s.table.openRow = some row) :
    s.ArrivalKeeps (s.disputeArrival l f) f.origin ∧
    (s.disputeArrival l f).table = { s.table with openRow := some (row.setBody f.origin .disputed) } ∧
    (s.disputeArrival l f).entry f.origin = some { e with disagree := bump8 e.disagree } := by
  refine ⟨State.mapEntry_keeps s f.origin (g := fun e => { e with disagree := bump8 e.disagree }) fun _ => rfl, ?_, ?_⟩
  · exact congrArg (fun r => { s.table with openRow := Option.map (fun r => Row.setBody r f.origin .disputed) r }) hrow
  · exact State.mapEntry_entry (s := s.mapOpen _) he (fun e => { e with disagree := bump8 e.disagree }) fun _ => rfl

/-! ## Out of window -/

/-- The station once an OUT_OF_WINDOW arrival is counted and marked. -/
def State.outOfWindowMarked (s : State) (f : Contrib) : State :=
  (s.mapOpen (fun r => r.setMark f.origin)).mapEntry f.origin
    (fun e => { e with outOfWindow := bump8 e.outOfWindow, latestLowest := some f.content.lowest })

theorem State.outOfWindowArrival_eq (s : State) (c : Configuration) (f : Contrib) : s.outOfWindowArrival c f =
    if (s.outOfWindowMarked f).recaptureTest c f && !s.recapturePostponed then
      (s.outOfWindowMarked f).recapture c f.origin f.round f.age
    else s.outOfWindowMarked f := rfl

theorem State.outOfWindowMarked_entry (he : s.entry f.origin = some e) : (s.outOfWindowMarked f).entry f.origin =
    some { e with outOfWindow := bump8 e.outOfWindow, latestLowest := some f.content.lowest } :=
  State.mapEntry_entry (s := s.mapOpen _) he
    (fun e => { e with outOfWindow := bump8 e.outOfWindow, latestLowest := some f.content.lowest }) fun _ => rfl

theorem State.outOfWindowMarked_keeps (s : State) (f : Contrib) : s.ArrivalKeeps (s.outOfWindowMarked f) f.origin :=
  State.mapEntry_keeps s f.origin (g := fun e =>
    { e with outOfWindow := bump8 e.outOfWindow, latestLowest := some f.content.lowest }) fun _ => rfl

theorem State.outOfWindowMarked_table (hrow : s.table.openRow = some row) :
    (s.outOfWindowMarked f).table = { s.table with openRow := some (row.setMark f.origin) } :=
  congrArg (fun r => { s.table with openRow := Option.map (fun r => Row.setMark r f.origin) r }) hrow

/-- The lowest-present number depends on the numbers and states of the entries alone (R90). -/
theorem State.lowestPresent_mapEntry (s : State) (n : Nat) {g : Entry → Entry} (hn : ∀ e, (g e).station = e.station)
    (hs : ∀ e, (g e).state = e.state) : (s.mapEntry n g).lowestPresent = s.lowestPresent := by
  unfold State.lowestPresent
  simp only [State.mapEntry_entries, List.any_map]
  congr 3
  funext m
  congr 1
  funext e
  dsimp only [Function.comp_apply]
  split <;> simp [hn, hs]

/-- The test of R12, read off the station as the arrival finds it. -/
theorem State.recaptureTest_marked (he : s.entry f.origin = some e) (hpeer : f.origin ≠ c.station) :
    (s.outOfWindowMarked f).recaptureTest c f = true ↔ s.life.state = .present ∧ f.content.sender = .present ∧
      e.outOfWindowRun = c.lostRounds ∧ f.content.lowest < s.lowestPresent := by
  have hlowest : (s.outOfWindowMarked f).lowestPresent = s.lowestPresent :=
    State.lowestPresent_mapEntry _ _ (fun _ => rfl) fun _ => rfl
  have hlife : (s.outOfWindowMarked f).life = s.life := rfl
  simp only [State.recaptureTest, State.outOfWindowMarked_entry he, hlowest, hlife]
  simp [hpeer, and_assoc]

theorem State.recapturePostponed_iff : s.recapturePostponed = false ↔ s.trip.energised = false ∧ s.trip.bfTimer = .idle := by
  simp [State.recapturePostponed]

/-- An entry's LEAVE makes an arrival STALE for the rounds up to it (R61). -/
theorem Entry.staleFor_iff {r : Round} : e.staleFor r = true ↔ e.state = .left ∧ ∃ k, e.leaveRound = some k ∧
    ¬ (1 ≤ (r - k).toNat ∧ (r - k).toNat ≤ 32767) := by
  unfold Entry.staleFor roundAfter
  cases e.leaveRound with
  | none => simp
  | some k => simp [-not_and, Classical.not_and_iff_not_or_not]

theorem closedRow_iff {r : Round} : (holdsRound s.table.newest r || holdsRound s.table.older r) = true ↔
    ∃ x, (s.table.newest = some x ∨ s.table.older = some x) ∧ x.round = r := by
  rw [Bool.or_eq_true, holdsRound_iff, holdsRound_iff]
  constructor
  · rintro (⟨x, hx, hr⟩ | ⟨x, hx, hr⟩)
    · exact ⟨x, .inl hx, hr⟩
    · exact ⟨x, .inr hx, hr⟩
  · rintro ⟨x, hx | hx, hr⟩
    · exact .inl ⟨x, hx, hr⟩
    · exact .inr ⟨x, hx, hr⟩

end

/-- Settles O35: one class after the other, in the order that the Round Table tests them. -/
theorem arrivalsClassed : Obligations.ArrivalsClassed := by
  intro l chars bs s c row f htakes hgood hc hst hf hpeer hrow
  have hexec := exec_contribArrival htakes hgood hc hst (hf ▸ hpeer)
  rw [hf, State.forwarded_eq] at hexec
  generalize (s.lane l).accept.passedOn s.dress s.now bs = x at hexec
  have hkeeps : s.ArrivalKeeps (s.setLane l x) f.origin := ⟨rfl, rfl, rfl, rfl, rfl, rfl, rfl, rfl, fun _ _ => rfl⟩
  refine ⟨_, hexec, fun he => ?_, fun e he => ⟨fun hsum => ?_, fun hsum hstale => ?_, fun hsum hstale hround =>
    ⟨fun k i hbody hk => ?_, fun k i hbody hk => ?_, fun hbody => ?_⟩, fun hsum hstale hround hclosed => ?_,
    fun hsum hstale hround hclosed hrecaptures => ?_⟩⟩
  · rw [State.contribArrival_offRoster (s := s.setLane l x) he]
    exact ⟨hkeeps, ⟨rfl, rfl⟩, rfl⟩
  · rw [State.contribArrival_refused (s := s.setLane l x) he hsum]
    obtain ⟨hkept, htable, hentry, hevents⟩ := State.refuseArrival_spec (s := s.setLane l x) he hrow
    exact ⟨hkept, htable, hentry, hevents.trans (State.changeEntry_refuse_events (s := s.setLane l x) he)⟩
  · rw [State.contribArrival_stale (s := s.setLane l x) he hsum (Entry.staleFor_iff.mpr hstale)]
    exact ⟨State.mapEntry_keeps (s.setLane l x) f.origin fun _ => rfl, ⟨rfl, rfl⟩,
      State.mapEntry_entry (s := s.setLane l x) he (fun e => { e with stale := bump8 e.stale }) fun _ => rfl⟩
  all_goals have hfresh : e.staleFor f.round = false := Bool.eq_false_iff.mpr fun h => hstale (Entry.staleFor_iff.mp h)
  · rw [State.contribArrival_slot (s := s.setLane l x) he hsum hfresh hrow hround, State.slotArrival, hbody]
    simp only [hk, if_true]
    exact ⟨hkeeps, rfl, rfl, rfl⟩
  · rw [State.contribArrival_slot (s := s.setLane l x) he hsum hfresh hrow hround, State.slotArrival, hbody]
    simp only [hk, if_false]
    obtain ⟨hkept, htable, hentry⟩ := State.disputeArrival_spec (s := s.setLane l x) (l := l) he hrow
    exact ⟨hkept, htable, hentry, rfl⟩
  · rw [State.contribArrival_slot (s := s.setLane l x) he hsum hfresh hrow hround, State.slotArrival, hbody]
    exact ⟨hkeeps, rfl, rfl, rfl⟩
  · rw [State.contribArrival_late (s := s.setLane l x) he hsum hfresh hrow hround (closedRow_iff.mpr hclosed)]
    exact ⟨State.mapEntry_keeps (s.setLane l x) f.origin fun _ => rfl, ⟨rfl, rfl⟩,
      State.mapEntry_entry (s := s.setLane l x) he (fun e => { e with late := bump8 e.late }) fun _ => rfl⟩
  · rw [State.contribArrival_outOfWindow (s := s.setLane l x) he hsum hfresh hrow hround
      (Bool.eq_false_iff.mpr fun h => hclosed (closedRow_iff.mp h)), State.outOfWindowArrival_eq, if_neg]
    · exact ⟨State.outOfWindowMarked_keeps _ f, State.outOfWindowMarked_table hrow, rfl, State.outOfWindowMarked_entry he⟩
    · rw [Bool.and_eq_true, Bool.not_eq_true']
      rintro ⟨htest, hfree⟩
      obtain ⟨hpresent, hsender, hrun, hlowest⟩ := (State.recaptureTest_marked (s := s.setLane l x) he hpeer).mp htest
      obtain ⟨hoff, hidle⟩ := State.recapturePostponed_iff.mp hfree
      exact hrecaptures ⟨hpresent, hsender, hrun, hlowest, hoff, hidle⟩

end Sys2Proof.Machine
end

section
/-! PROOFS. The adoption of a peer's numbering: capture and recapture (R10 to R14, R90). -/

namespace Sys2Proof.Machine

section
variable {s : State} {c : Configuration} {l : Lane} {f : Contrib} {e : Entry}

/-- What a capture and a recapture share: the peer's round and phase, the rows emptied, the scans void (R10, R14). -/
def State.Adopted (s : State) (c : Configuration) (f : Contrib) (t : State) : Prop :=
  t.timer = s.timer.adopt c.period s.now f.round (capturedPhase c f.age) ∧ t.table = s.table.adopt f.round ∧
  t.acquisition = s.acquisition.voidTags ∧ t.trip = s.trip ∧ t.life = s.life ∧ t.replica = s.replica ∧
  t.supply = s.supply ∧ t.link = s.link

/-! ## Capture -/

/-- In LISTEN before a capture a CONTRIB goes to the Round Timer (R44). -/
theorem State.handContrib_capture (hc : s.life.config = some c) (hst : s.life.state = .listen) (hm : s.timer.mode ≠ .numbered) :
    s.handContrib l f = s.captureArrival c f := by
  simp [State.handContrib, hc, hst, hm]

/-- The station captures from this CONTRIB (R10). -/
def State.Captures (s : State) (c : Configuration) (f : Contrib) : Prop :=
  (∃ e ∈ c.roster, e.station = f.origin) ∧ f.content.sender = .present ∧ s.life.checksum = some f.checksum

theorem State.captureArrival_captures (h : s.Captures c f) (hpeer : f.origin ≠ c.station) :
    s.captureArrival c f = s.capture c f.origin f.round f.age := by
  obtain ⟨hroster, hsender, hsum⟩ := h
  have hon : c.onRoster f.origin = true := by simpa [Configuration.onRoster] using hroster
  simp [State.captureArrival, hon, hpeer, hsender, hsum]

theorem State.captureArrival_ignores (h : ¬ s.Captures c f) : s.captureArrival c f = s := by
  unfold State.captureArrival
  rw [if_neg]
  intro htest
  simp only [Bool.and_eq_true, beq_iff_eq] at htest
  obtain ⟨⟨⟨hon, -⟩, hsender⟩, hsum⟩ := htest
  exact h ⟨by simpa [Configuration.onRoster] using hon, hsender, hsum⟩

/-! ## Recapture -/

theorem State.recapture_adopted (s : State) (c : Configuration) (f : Contrib) :
    s.Adopted c f (s.recapture c f.origin f.round f.age) := by
  unfold State.Adopted State.recapture
  simp [State.adopt]

theorem Membership.clearRuns_find (m : Membership) (n : Nat) : m.clearRuns.entries.find? (fun e => e.station == n) =
    (m.entries.find? (fun e => e.station == n)).map (fun e => { e with outOfWindowRun := 0 }) := by
  simp only [Membership.clearRuns, List.find?_map]
  rfl

theorem State.recapture_entry (n k : Nat) (r : Round) (age : Nat) : (s.recapture c n r age).entry k =
    (s.entry k).map (fun e => { e with outOfWindowRun := 0 }) := by
  rw [State.entry_congr (s := { s with membership := s.membership.clearRuns }) (by simp [State.recapture])]
  exact s.membership.clearRuns_find k

theorem State.recapture_zones (n : Nat) (r : Round) (age : Nat) : (s.recapture c n r age).zones = s.zones.recapture := by
  simp [State.recapture]

theorem ZoneEvaluator.recapture_get (x : ZoneEvaluator) (z : Zone) : x.recapture.get z = (x.get z).recapture := by
  cases z <;> rfl

theorem ZoneRecord.recapture_phase (x : ZoneRecord) (p : Phase) : x.recapture.phases.get p =
    { x.phases.get p with window := [], markHold := 0, previousHigh := false, supervisionRun := 0 } := by
  cases p <;> rfl

theorem recaptureDraft_length (z : Zone) (x : ZoneRecord) : (recaptureDraft z x).length ≤ 1 := by
  unfold recaptureDraft
  split <;> simp

/-- With room for four records a RECAPTURE is recorded (R14). -/
theorem State.recapture_recorded (n : Nat) (r : Round) (age : Nat) (h : s.events.records.length ≤ 60) :
    { kind := .recapture, round := r, subject := n,
      detail := bytes2 s.timer.round.toNat ++ bytes2 r.toNat ++ bytes2 (capturedPhase c age) } ∈
      (s.recapture c n r age).events.records := by
  refine State.offerGroups_mem (s := { s.adopt c r (capturedPhase c age) with zones := s.zones.recapture, membership := s.membership.clearRuns })
    (d := { kind := .recapture, subject := n,
            detail := bytes2 s.timer.round.toNat ++ bytes2 r.toNat ++ bytes2 (capturedPhase c age) }) _ ?_ (by simp [recaptureDrafts])
  have hcz := recaptureDraft_length .cz s.zones.cz
  have ha := recaptureDraft_length .a s.zones.a
  have hb := recaptureDraft_length .b s.zones.b
  simp only [recaptureDrafts, State.adopt, List.flatten_cons, List.flatten_nil, List.length_append, List.length_cons,
    List.length_nil]
  omega

end

/-! ## The lowest-present number (R90) -/

theorem State.lowestPresent_spec (s : State) : (s.lowestPresent = 0xFF ∨
      s.lowestPresent < 40 ∧ ∃ e ∈ s.membership.entries, e.station = s.lowestPresent ∧ e.state = .present) ∧
    ∀ e ∈ s.membership.entries, e.station < 40 → e.state = .present → s.lowestPresent ≤ e.station := by
  unfold State.lowestPresent
  cases hfind : (List.range 40).find? (fun n => s.membership.entries.any (fun e => e.station == n && e.state == .present)) with
  | none =>
    refine ⟨.inl rfl, fun e he hn hp => ?_⟩
    have hnone := List.find?_eq_none.mp hfind e.station (List.mem_range.mpr hn)
    exact absurd (List.any_eq_true.mpr ⟨e, he, by simp [hp]⟩) hnone
  | some n =>
    have hn : n < 40 := List.mem_range.mp (List.mem_of_find?_eq_some hfind)
    obtain ⟨hany, -, hsmaller⟩ := List.find?_range_eq_some.mp hfind
    obtain ⟨e, he, htest⟩ := List.any_eq_true.mp hany
    simp only [Bool.and_eq_true, beq_iff_eq] at htest
    refine ⟨.inr ⟨hn, e, he, htest⟩, fun e he _ hp => ?_⟩
    by_contra hlt
    have hno : ∀ x ∈ s.membership.entries, x.station = e.station → ¬ x.state = .present := by
      simpa using hsmaller e.station (Nat.lt_of_not_le hlt)
    exact hno e he rfl hp

/-- Settles O36: the capture test, the recapture test on the marked station, and what both adopt. -/
theorem captureAndRecapture : Obligations.CaptureAndRecapture := by
  refine ⟨fun l chars bs s c f htakes hgood hc hf hpeer => ⟨fun hst hm => ?_, fun e row hst he hsum hstale hrow hround hclosed
    hsender hrun hlowest => ?_⟩, State.lowestPresent_spec⟩
  · have horigin : frameOrigin bs ≠ s.ownNumber := by 
      rw [State.ownNumber_configured hc]
      exact (congrArg Contrib.origin hf).trans_ne hpeer
    have hexec := exec_contribReceived htakes hgood
    rw [State.goodContrib_peer horigin, hf, State.forwarded_eq] at hexec
    generalize (s.lane l).accept.passedOn s.dress s.now bs = x at hexec
    rw [State.handContrib_capture (s := s.setLane l x) hc hst hm] at hexec
    refine ⟨_, hexec, by simp, by simp, fun htest => ?_, fun htest => ?_⟩
    · rw [State.captureArrival_captures (s := s.setLane l x) htest hpeer]
      exact ⟨⟨rfl, rfl, rfl, rfl, rfl, rfl, rfl, rfl⟩, rfl⟩
    · rw [State.captureArrival_ignores (s := s.setLane l x) htest]
      exact ⟨rfl, rfl, rfl, rfl, rfl, rfl, rfl⟩
  · have hexec := exec_contribArrival htakes hgood hc (.inl (by rw [hst]; rfl)) (hf ▸ hpeer)
    rw [hf, State.forwarded_eq] at hexec
    generalize (s.lane l).accept.passedOn s.dress s.now bs = x at hexec
    have hnone : ¬ (holdsRound s.table.newest f.round || holdsRound s.table.older f.round) = true := fun h => by
      obtain ⟨r, hr, hn⟩ := closedRow_iff.mp h
      exact hclosed r hr hn
    rw [State.contribArrival_outOfWindow (s := s.setLane l x) he hsum hstale hrow hround (Bool.eq_false_iff.mpr hnone),
      State.outOfWindowArrival_eq, (State.recaptureTest_marked (s := s.setLane l x) he hpeer).mpr ⟨hst, hsender, hrun, hlowest⟩] at hexec
    obtain ⟨-, -, -, -, -, -, -, -, hothers⟩ := State.outOfWindowMarked_keeps (s.setLane l x) f
    have hsenderEntry := State.outOfWindowMarked_entry (s := s.setLane l x) he
    refine ⟨_, hexec, fun hoff hidle => ?_, fun hbusy => ?_⟩
    · have hfree : (s.setLane l x).recapturePostponed = false := State.recapturePostponed_iff.mpr ⟨hoff, hidle⟩
      rw [hfree, Bool.not_false, Bool.and_true, if_pos rfl]
      refine ⟨State.recapture_adopted ((s.setLane l x).outOfWindowMarked f) c f, ?_, fun n hn => ?_, fun z => ?_, ?_, ?_,
        State.recapture_recorded (s := (s.setLane l x).outOfWindowMarked f) f.origin f.round f.age⟩
      · rw [State.recapture_entry, hsenderEntry]
        rfl
      · rw [State.recapture_entry, hothers n hn]
        rfl
      · rw [State.recapture_zones, ZoneEvaluator.recapture_get]
        exact ⟨rfl, rfl, rfl, rfl, rfl, ZoneRecord.recapture_phase _⟩
      · rw [State.recapture_zones]
        rfl
      · rw [State.recapture_zones]
        rfl
    · have hpostponed : (s.setLane l x).recapturePostponed = true := by
        rw [← Bool.not_eq_false, State.recapturePostponed_iff]
        rintro ⟨hoff, hidle⟩
        rcases hbusy with hon | hbusy
        · exact absurd (hon.symm.trans hoff) (by decide)
        · exact hbusy hidle
      rw [hpostponed, Bool.not_true, Bool.and_false, if_neg (by decide)]
      exact ⟨rfl, rfl, rfl, State.outOfWindowMarked_table hrow, rfl⟩

end Sys2Proof.Machine
end

section
/-! PROOFS. Own frames that come back, frames of others forwarded or dropped, and a LEAVE taken (R41 to R43, R65, R66, R84). -/

namespace Sys2Proof.Machine

/-! ## An own CONTRIB that returns -/

section
variable {s : State} {c : Configuration} {l : Lane} {f : Contrib} {row : Row}

theorem State.ownReturn_matched (hrow : s.table.openRow = some row) (hround : row.round = f.round)
    (h : returnMatches c s.life.checksum row f = true) : s.ownReturn c l f =
      (s.mapOpen (fun r => r.setReturned l)).countTable (fun t => { t with ownReturnsMatched := bump16 t.ownReturnsMatched }) := by
  simp [State.ownReturn, hrow, holdsRound, hround, h]

theorem State.ownReturn_clash (hrow : s.table.openRow = some row) (hround : row.round = f.round)
    (h : returnMatches c s.life.checksum row f = false) : s.ownReturn c l f = s.identityClash leadContrib f.round l := by
  simp [State.ownReturn, hrow, holdsRound, hround, h]

/-- An identity clash leaves the open row's clash flag set, be it this one's or an earlier one's (R66). -/
theorem State.identityClash_table (hrow : s.table.openRow = some row) (lead : Byte) (r : Round) :
    (s.identityClash lead r l).table.openRow = some { row with clash := true } ∧
    (s.identityClash lead r l).table.counters.identityClashes = bump16 s.table.counters.identityClashes := by
  unfold State.identityClash
  dsimp only
  rw [hrow]
  dsimp only
  split
  · rename_i hclash
    refine ⟨?_, rfl⟩
    rw [← hclash]
    exact hrow
  · exact ⟨by simp [State.offer, State.mapOpen, State.countTable, hrow], rfl⟩

theorem returnMatches_iff {k : Option Round} : returnMatches c k row f = true ↔
    row.content c.station = some f.content ∧ k = some f.checksum := by
  simp [returnMatches]

end

/-- Settles O37: the stripped CONTRIB returns to the open row, equal to the own slot or an identity clash. -/
theorem ownContribReturns : Obligations.OwnContribReturns := by
  intro l chars bs s c row htakes hgood hc hst howned hrow hround
  have hexec := exec_contribReceived htakes hgood
  have hown : frameOrigin bs = (s.mapLane l LaneState.accept).ownNumber :=
    Eq.trans howned (State.ownNumber_configured (s := s.mapLane l LaneState.accept) hc).symm
  have hstripped : (s.mapLane l LaneState.accept).goodContrib l bs =
      ((s.mapLane l LaneState.accept).stripOwn l).ownReturn c l (readContrib bs) := by
    have hc' : (s.mapLane l LaneState.accept).life.config = some c := hc
    have hst' : (s.mapLane l LaneState.accept).life.state.working = true := hst
    simp only [State.goodContrib, if_pos hown, hc', hst', if_true]
  rw [hstripped] at hexec
  have hlane : ((s.mapLane l LaneState.accept).stripOwn l).lane l =
      (s.lane l).accept.count fun k => { k with ownStripped := bump16 k.ownStripped } := by
    rw [State.stripOwn, State.lane_mapLane, if_pos rfl, State.lane_mapLane, if_pos rfl]
  obtain ⟨x, hx⟩ : ∃ x, (s.mapLane l LaneState.accept).stripOwn l = s.setLane l x := ⟨_, by
    rw [State.stripOwn, State.mapLane, State.mapLane, State.setLane_setLane]⟩
  rw [hx] at hexec hlane
  have htlane : ((s.setLane l x).ownReturn c l (readContrib bs)).lane l = (s.setLane l x).lane l := State.lane_eq _ _ (by simp) l
  refine ⟨_, hexec, by rw [htlane, hlane]; rfl, by rw [htlane, hlane]; rfl, fun hmatch => ?_, fun hmatch => ?_, by simp,
    by simp, by simp, by simp, by simp, by simp, by simp, by simp, by simp⟩
  · rw [State.ownReturn_matched (s := s.setLane l x) hrow hround (returnMatches_iff.mpr hmatch)]
    exact ⟨congrArg (Option.map _) hrow, rfl, rfl⟩
  · rw [State.ownReturn_clash (s := s.setLane l x) hrow hround (Bool.eq_false_iff.mpr fun h => hmatch (returnMatches_iff.mp h))]
    exact State.identityClash_table (s := s.setLane l x) hrow leadContrib _

/-! ## A frame of another station -/

section
variable {s : State} {l : Lane} {chars bs : List Byte} {x : LaneState} {dress : QueuedFrame → QueuedFrame} {now : Nat}

theorem LaneState.passedOn_hopLimit (h : 39 ≤ frameHops bs) :
    x.passedOn dress now bs = x.count (fun k => { k with hopLimit := bump16 k.hopLimit }) := if_pos (by omega)

theorem LaneState.passedOn_full (h : frameHops bs ≤ 38) (hfull : 8 ≤ x.queue.length) : x.passedOn dress now bs = x.dropped := by
  rw [LaneState.passedOn, if_neg (by omega), if_neg (by omega)]

theorem LaneState.passedOn_room (h : frameHops bs ≤ 38) (hroom : x.queue.length < 8) : x.passedOn dress now bs =
    (x.count (fun k => { k with forwarded := bump16 k.forwarded })).joined dress
      { source := .copy now, bytes := setHops bs (frameHops bs + 1) } := by
  rw [LaneState.passedOn, if_neg (by omega), if_pos hroom]

/-- A frame that joins while the transmitter is at work waits at the tail. -/
theorem LaneState.joined_busy (h : x.transmitter ≠ .idle) (f : QueuedFrame) :
    x.joined dress f = { x with queue := x.queue ++ [f] } := if_neg h

/-- A frame that joins an idle lane with nothing else to send is sent at once. -/
theorem LaneState.joined_idle (h : x.transmitter = .idle) (hq : x.queue = []) (hclear : x.clearPending = false) (f : QueuedFrame) :
    x.joined dress f = { x with transmitter := .sending, queue := [dress f] } := by
  simp [LaneState.joined, LaneState.kicked, LaneState.served, h, hq, hclear]

/-- A good frame of another station changes the ring by its forwarding alone. -/
theorem exec_peerFrame {i : Instr}
    (hi : i = .contribReceived l chars ∧ goodContribBytes bs ∨ i = .leaveReceived l chars ∧ goodLeaveBytes bs)
    (h : s.takesIn l chars bs) (hpeer : frameOrigin bs ≠ s.ownNumber) :
    ∃ t, exec i s = .next t ∧ t.ring = (s.forwarded l bs).ring ∧ t.replica = s.replica ∧ t.trip = s.trip ∧ t.life = s.life ∧
      t.supply = s.supply ∧ t.link = s.link := by
  rcases hi with ⟨rfl, hgood⟩ | ⟨rfl, hgood⟩
  · refine ⟨_, (exec_contribReceived h hgood).trans (congrArg _ (State.goodContrib_peer hpeer)), ?_⟩
    rw [State.forwarded_eq]
    simp
  · refine ⟨_, (exec_leaveReceived h hgood).trans (congrArg _ (State.goodLeave_peer hpeer)), ?_⟩
    rw [State.forwarded_eq]
    simp

end

/-- Settles O38: the lane rejects a bad frame, and passes on a good one unless the hop limit or the queue stops it. -/
theorem framesForwardedOrDropped : Obligations.FramesForwardedOrDropped := by
  refine ⟨fun i l chars bs s hi htakes hbad => ?_, fun i l chars bs s hi htakes hpeer => ?_⟩
  · obtain ⟨hp, hreceives, hgathered⟩ := htakes
    have hchars (lead : Byte) (hlead : bs.head? = some lead) : s.frameChars l lead bs.length chars = s.mapLane l LaneState.reject := by
      simp [State.frameChars, hgathered, hreceives, hlead, State.frameEnds, hbad]
    rcases hi with ⟨rfl, hlead, hlength⟩ | ⟨rfl, hlead, hlength⟩
    · exact (live_powered (f := fun s => s.frameChars l leadContrib 24 chars) hp).trans (congrArg _ (hlength ▸ hchars _ hlead))
    · exact (live_powered (f := fun s => s.frameChars l leadLeave 12 chars) hp).trans (congrArg _ (hlength ▸ hchars _ hlead))
  · obtain ⟨t, hexec, hring, hreplica, htrip, hlife, hsupply, hlink⟩ := exec_peerFrame hi htakes hpeer
    rw [State.forwarded_eq] at hring
    have hlane (m : Lane) := State.lane_eq _ _ hring m
    have hin := hlane l
    rw [State.lane_setLane_same] at hin
    have hout : t.lane (partner l) = s.lane (partner l) := by
      rw [hlane, State.lane_setLane, if_neg]
      cases l <;> decide
    refine ⟨t, hexec, by rw [hin, (LaneState.passedOn_frame _ _ _ _).1]; rfl, fun hhops => ?_, fun hhops hfull => ?_, fun hhops hroom hbusy => ?_,
      fun hhops hempty hidle hclear => ?_, hout, hreplica, htrip, hlife, hsupply, hlink⟩
    · rw [hin, LaneState.passedOn_hopLimit hhops]
      exact ⟨rfl, rfl⟩
    · rw [hin, LaneState.passedOn_full (x := (s.lane l).accept) hhops hfull]
      exact ⟨rfl, rfl⟩
    · rw [hin, LaneState.passedOn_room (x := (s.lane l).accept) hhops hroom, LaneState.joined_busy (by exact hbusy)]
      exact ⟨rfl, rfl⟩
    · rw [hin, LaneState.passedOn_room (x := (s.lane l).accept) hhops (by simp [LaneState.accept, hempty]),
        LaneState.joined_idle (by exact hidle) (by exact hempty) (by exact hclear)]
      simp [State.dress]

/-- Settles O39: the LEAVE goes through the lane to the Membership Table, which takes it into the sender's entry. -/
theorem leaveTaken : Obligations.LeaveTaken := by
  intro l chars bs s e htakes hgood hpeer hst he hcheck hnew
  have hexec := exec_leaveReceived htakes hgood
  rw [State.goodLeave_peer hpeer, State.forwarded_eq] at hexec
  generalize (s.lane l).accept.passedOn s.dress s.now bs = x at hexec
  generalize readLeave bs = f at *
  have htakes' : (s.setLane l x).handLeave f = (s.setLane l x).changeEntry e (Entry.takeLeave f) := by
    have he' : (s.setLane l x).entry f.origin = some e := he
    have hcheck' : f.check = ((s.setLane l x).life.checksum.getD 0).setWidth 8 := hcheck
    have hhanded : (s.setLane l x).handLeave f = (s.setLane l x).leaveArrival f := by
      unfold State.handLeave
      rcases hst with hst | hst
      · split <;> simp_all [StationState.working]
      · split <;> simp_all
    rw [hhanded, State.leaveArrival, he']
    simp [hcheck', hnew]
  rw [htakes'] at hexec
  obtain ⟨htimer, hacquisition, hreplica, hzones, htrip, hlife, hsupply, hlink, hothers⟩ :=
    State.changeEntry_keeps (s := s.setLane l x) (g := Entry.takeLeave f) (fun _ => rfl) he
  have hentry : ((s.setLane l x).changeEntry e (Entry.takeLeave f)).entry f.origin = some (e.takeLeave f) := by
    rw [State.changeEntry_entry, State.entry_station he]
    exact State.mapEntry_entry (s := s.setLane l x) he _ fun _ => rfl
  exact ⟨_, e.takeLeave f, hexec, hentry, rfl, rfl, rfl, rfl, rfl, rfl, hothers, htimer, hacquisition, by simp, hreplica,
    hzones, htrip, hlife, hsupply, hlink⟩

end Sys2Proof.Machine
end

section
/-! PROOFS. The receiver and the transmitter of a lane, and the age of a frame that is sent (R5, R37 to R40, R46 to R48). -/

namespace Sys2Proof.Machine

/-- Settles O40: each command's test holds, and it sets its own lane's receiver and counter. -/
theorem receiverFollowsItsLine : Obligations.ReceiverFollowsItsLine := by
  intro l s hp hreceives
  refine ⟨fun ch hhunt hlead => ?_, fun hhunt => ?_, fun b hwait => ?_, fun chars sp hin => ?_, fun chars hin => ?_,
    fun chars hfollows => ?_⟩
  · have htest : (s.receives && (s.lane l).receiver == .hunt && (frameLength ch).isNone) = true := by simp [hreceives, hhunt, hlead]
    exact (live_powered (f := fun s => s.unknownLead l ch) hp).trans (congrArg _ (if_pos htest))
  · have htest : (s.receives && (s.lane l).receiver == .hunt) = true := by simp [hreceives, hhunt]
    exact (live_powered (f := fun s => s.malformedInHunt l) hp).trans (congrArg _ (if_pos htest))
  · refine (live_powered (f := fun s => s.backToHunt l) hp).trans (congrArg _ ?_)
    simp [State.backToHunt, hreceives, hwait]
    rfl
  · exact (live_powered (f := fun s => s.framingError l chars sp) hp).trans (congrArg _ (if_pos hin))
  · exact (live_powered (f := fun s => s.truncation l chars) hp).trans (congrArg _ (if_pos hin))
  · have htest : (s.receives && clearFollows (s.lane l).receiver chars) = true := by simp [hreceives, hfollows]
    exact (live_powered (f := fun s => s.lineClearSeen l chars) hp).trans (congrArg _ (if_pos htest))

/-! ## The end of a transmission -/

section
variable {s : State} {l : Lane} {f : QueuedFrame} {rest : List QueuedFrame}

/-- The station once the head frame of a lane has left. -/
def State.headLeft (s : State) (l : Lane) (rest : List QueuedFrame) : State :=
  s.mapLane l (fun x => x.headSent (s.life.state == .hold) rest)

theorem State.headLeft_eq (s : State) (l : Lane) (rest : List QueuedFrame) : s.headLeft l rest = s.setLane l { s.lane l with
    queue := rest
    transmitter := .gap
    counters := { (s.lane l).counters with transmitted :=
      if s.life.state = .hold then (s.lane l).counters.transmitted else bump16 (s.lane l).counters.transmitted } } := by
  unfold State.headLeft State.mapLane LaneState.headSent
  by_cases h : s.life.state = .hold <;> simp [h]

theorem State.transmissionComplete_eq (hsending : (s.lane l).transmitter = .sending) (hq : (s.lane l).queue = f :: rest) :
    s.transmissionComplete l = if f.isOwnLeave then (s.headLeft l rest).report true else s.headLeft l rest := by
  rw [State.transmissionComplete, hsending, hq]
  rfl

theorem State.report_elsewhere (h : s.life.state ≠ .leaving) (sent : Bool) : s.report sent = s := if_neg h

/-- In LEAVING a report is counted, and the second one moves the station to OUT (R167). -/
theorem State.report_leaving (h : s.life.state = .leaving) (sent : Bool) :
    (s.report sent).life.leaveReports = bump 2 s.life.leaveReports ∧
    (s.report sent).life.leaveTransmitted = (if sent then bump 2 s.life.leaveTransmitted else s.life.leaveTransmitted) ∧
    (s.report sent).life.state = (if bump 2 s.life.leaveReports = 2 then .out else .leaving) := by
  unfold State.report
  rw [if_pos h]
  dsimp only
  split
  · rw [State.transition, State.enter_life]
    exact ⟨rfl, rfl, rfl⟩
  · exact ⟨rfl, rfl, h⟩

end

/-- Settles O41: the head frame leaves its lane, and an own LEAVE is reported besides. -/
theorem transmissionCompletes : Obligations.TransmissionCompletes := by
  intro l s f rest hp hsending hq
  have hexec : exec (.transmissionComplete l) s = .next (s.transmissionComplete l) :=
    live_powered (f := fun s => s.transmissionComplete l) hp
  rw [State.transmissionComplete_eq hsending hq] at hexec
  have hlife : (s.headLeft l rest).life = s.life := rfl
  refine ⟨fun h => ?_, fun hown hst => ?_⟩
  · rw [hexec, ← State.headLeft_eq]
    rcases h with hother | hst
    · rw [if_neg (by simp [hother])]
    · rw [State.report_elsewhere (s := s.headLeft l rest) hst, ite_self]
  · rw [if_pos hown] at hexec
    obtain ⟨hreports, htransmitted, hstate⟩ := State.report_leaving (s := s.headLeft l rest) hst true
    refine ⟨_, hexec, ?_, hreports, htransmitted, hstate, by simp; rfl, by simp; rfl, by simp; rfl, by simp; rfl, by simp; rfl⟩
    rw [← State.headLeft_eq]
    simp

/-! ## The age of a frame -/

section
variable {bs : List Byte} {age : Nat}

theorem crcGood_setAge (bs : List Byte) (age : Nat) : crcGood (setAge bs age) = true := by
  rw [setAge_eq]
  exact crcGood_append_crcBytes _

theorem frameAge_setAge (h : 8 ≤ bs.length) (hage : age ≤ 65535) : frameAge (setAge bs age) = age := by
  have hbyte {i : Nat} (hi : i < bs.length - 2) : (setAge bs age).getD i 0 =
      ((bs.set 4 (byte (age / 256))).set 5 (byte age)).getD i 0 := by
    simp only [List.getD_eq_getElem?_getD]
    rw [setAge_eq, List.getElem?_append_left (by simp; omega), List.getElem?_take_of_lt hi]
  have hhigh : (setAge bs age).getD 4 0 = byte (age / 256) := by
    rw [hbyte (by omega)]
    simp [show 4 < bs.length by omega]
  have hlow : (setAge bs age).getD 5 0 = byte age := by
    rw [hbyte (by omega)]
    simp [show 5 < bs.length by omega]
  rw [frameAge, u16, u8, u8, hhigh, hlow]
  exact u16_bytes2 (by omega)

theorem setAge_take_four (h : 8 ≤ bs.length) : (setAge bs age).take 4 = bs.take 4 := by
  refine List.ext_getElem? fun i => ?_
  by_cases hi : i < 4
  · rw [List.getElem?_take_of_lt hi, List.getElem?_take_of_lt hi, setAge_getElem? age (by omega) (by omega) (by omega)]
  · rw [List.getElem?_eq_none (by simp; omega), List.getElem?_eq_none (by simp; omega)]

/-- Between its age and its CRC a frame keeps every byte. -/
theorem setAge_middle (h : 8 ≤ bs.length) :
    ((setAge bs age).drop 6).take (bs.length - 8) = (bs.drop 6).take (bs.length - 8) := by
  refine List.ext_getElem? fun i => ?_
  by_cases hi : i < bs.length - 8
  · rw [List.getElem?_take_of_lt hi, List.getElem?_take_of_lt hi, List.getElem?_drop, List.getElem?_drop,
      setAge_getElem? age (by omega) (by omega) (by omega)]
  · rw [List.getElem?_eq_none (by simp; omega), List.getElem?_eq_none (by simp; omega)]

theorem lineTime_head {h : bs ≠ []} : lineTime bs = if bs.head? = some leadContrib then 5 else 3 := by
  cases bs with
  | nil => contradiction
  | cons b bs => simp [lineTime]

end

/-! ## The elapsed time of a round (R5) -/

section
variable {s : State}

theorem State.elapsedSince_next (hm : s.timer.mode = .numbered) :
    s.elapsedSince (s.timer.round + 1) = (s.timer.phase : Int) - s.timer.roundLength := by
  simp [State.elapsedSince, hm]

/-- The round in progress and the two before it are none of them the next. -/
theorem round_sub_ne_next (r : Round) (k : Fin 3) : r - BitVec.ofNat 16 k.val ≠ r + 1 := by
  have hk := k.isLt
  intro h
  have := congrArg BitVec.toNat h
  simp at this
  omega

theorem round_sub_sub (r : Round) (k : Fin 3) : (r - (r - BitVec.ofNat 16 k.val)).toNat = k.val := by
  have hk := k.isLt
  rw [sub_sub_cancel]
  simp
  omega

/-- The instant that stands for the mark of the round in progress or of one of the two before it. -/
theorem RoundTimer.markOf_recent (t : RoundTimer) (k : Fin 3) {i : Int}
    (h : t.captureMark = some (t.round - BitVec.ofNat 16 k.val, i) ∨
      (∀ j, t.captureMark ≠ some (t.round - BitVec.ofNat 16 k.val, j)) ∧ t.history[k.val]? = some i) :
    t.markOf (t.round - BitVec.ofNat 16 k.val) = some i := by
  have hk := k.isLt
  unfold RoundTimer.markOf
  dsimp only
  rw [round_sub_sub, if_pos (by omega)]
  rcases h with h | ⟨hnone, hhistory⟩
  · simp [h]
  · cases hc : t.captureMark with
    | none => exact hhistory
    | some m =>
      obtain ⟨r, j⟩ := m
      have hne : r ≠ t.round - BitVec.ofNat 16 k.val := by
        rintro rfl
        exact hnone j hc
      simpa [hne] using hhistory

/-- No other round has a mark. -/
theorem RoundTimer.markOf_other (t : RoundTimer) {n : Round} (h : ∀ k : Fin 3, n ≠ t.round - BitVec.ofNat 16 k.val) :
    t.markOf n = none := by
  unfold RoundTimer.markOf
  dsimp only
  rw [if_neg]
  intro hback
  refine h ⟨(t.round - n).toNat, by omega⟩ ?_
  dsimp only
  rw [BitVec.ofNat_toNat, BitVec.setWidth_eq, sub_sub_cancel]

theorem State.elapsedSince_marked (hm : s.timer.mode = .numbered) {n : Round} {i : Int} (hn : n ≠ s.timer.round + 1)
    (h : s.timer.markOf n = some i) : s.elapsedSince n = min 65535 ((s.now : Int) - i) := by
  rw [State.elapsedSince, if_pos hm, if_neg hn, h]

theorem State.sinceLastMark_history {i : Int} {rest : List Int} (h : s.timer.history = i :: rest) :
    s.sinceLastMark = min 65535 ((s.now : Int) - i) := by
  simp [State.sinceLastMark, RoundTimer.lastMark, h]

end

theorem exec_gapEnd {s : State} {l : Lane} (hp : s.powered = true) (hgap : (s.lane l).transmitter = .gap) :
    exec (.gapEnd l) s = .next (s.setLane l ((s.lane l).served s.dress)) :=
  (live_powered (f := fun s => s.gapEnd l) hp).trans (congrArg _ ((if_pos hgap).trans (s.serve_eq l)))

/-- Settles O42: the transmitter's moves, the dressed frame byte by byte, and the Round Timer's answer. -/
theorem transmitterMovesOn : Obligations.TransmitterMovesOn := by
  refine ⟨fun l s hp => ⟨fun hclearing => ?_, fun hgap hpending => ?_, fun f rest hgap hpending hq => ?_,
    fun hgap hpending hq => ?_⟩, fun s f hf => ?_, fun s hm => ⟨State.elapsedSince_next hm, fun k i h => ?_,
    fun n i rest hnext hother hhistory => ?_⟩, fun s n i rest hm hhistory => ?_⟩
  · exact (live_powered (f := fun s => s.lineClearEnd l) hp).trans (congrArg _ (if_pos hclearing))
  · rw [exec_gapEnd hp hgap, LaneState.served, if_pos hpending]
  · rw [exec_gapEnd hp hgap, LaneState.served, if_neg (by simp [hpending])]
    simp [hq]
  · rw [exec_gapEnd hp hgap, LaneState.served, if_neg (by simp [hpending])]
    simp [hq]
  · have hlength := hf.length
    have hlong : 8 ≤ f.bytes.length := by omega
    obtain ⟨age, hdress⟩ := s.dress_eq f
    refine ⟨by rw [hdress], by rw [hdress]; exact setAge_length age (by omega), by rw [hdress]; exact crcGood_setAge _ _,
      by rw [hdress]; exact setAge_take_four hlong, by rw [hdress]; exact setAge_middle hlong, fun arrived c hsource hc => ?_,
      fun arrived hsource hc => ?_, fun hsource hmin hmax => ?_⟩
    · have hline := lineTime_head (bs := f.bytes) (h := by rintro h; simp [h] at hlong)
      simp only [State.dress, hsource, copyAge, hc]
      rw [frameAge_setAge hlong (by omega), hline]
    · simp only [State.dress, hsource, copyAge, hc]
      rw [frameAge_setAge hlong (by omega)]
    · simp only [State.dress, hsource, ownAge, if_neg (Int.not_lt.mpr hmin)]
      rw [frameAge_setAge hlong (by omega)]
      omega
  · exact State.elapsedSince_marked hm (round_sub_ne_next _ k) (s.timer.markOf_recent k h)
  · rw [State.elapsedSince, if_pos hm, if_neg hnext, s.timer.markOf_other hother]
    exact State.sinceLastMark_history hhistory
  · rw [State.elapsedSince, if_neg hm]
    exact State.sinceLastMark_history hhistory

end Sys2Proof.Machine
end

section
/-! PROOFS. The maintenance line: the rate of a matching character, and the receiver between requests (R174 to R176). -/

namespace Sys2Proof.Machine

/-! ## The nearest rate (R175) -/

/-- Two listed rates lie further apart than the tolerances of both together. -/
theorem listedRates_apart : ∀ r ∈ listedRates, ∀ y ∈ listedRates, y ≠ r →
    6 * y.baud < 100 * ((y.baud : Int) - r.baud).natAbs := by decide

theorem listedRates_mem (r : Rate) : r ∈ listedRates := by cases r <;> decide

/-- A rate within 3% is nearer than any other. -/
theorem Rate.nearer_of_within3 {r y : Rate} {interval : Nat} (h : r.within3 interval = true) (hne : y ≠ r) :
    r.distance interval * y.baud < y.distance interval * r.baud := by
  have hapart := listedRates_apart r (listedRates_mem r) y (listedRates_mem y) hne
  have hwithin : r.distance interval ≤ 270000000 := of_decide_eq_true h
  have hproduct : r.distance interval * y.baud ≤ 270000000 * y.baud := Nat.mul_le_mul_right _ hwithin
  have hr : r.distance interval * y.baud = ((interval : Int) * r.baud * y.baud - 9000000000 * y.baud).natAbs := by
    rw [Rate.distance, ← Int.natAbs_natCast y.baud, ← Int.natAbs_mul, Int.sub_mul, Int.natAbs_natCast]
  have hy : y.distance interval * r.baud = ((interval : Int) * r.baud * y.baud - 9000000000 * r.baud).natAbs := by
    rw [Rate.distance, ← Int.natAbs_natCast r.baud, ← Int.natAbs_mul, Int.sub_mul, Int.natAbs_natCast, Int.mul_right_comm]
  rw [hr] at hproduct
  rw [hr, hy]
  generalize (interval : Int) * r.baud * y.baud = p at *
  omega

theorem nearerRate_self {r : Rate} {interval : Nat} (h : r.within3 interval = true) (y : Rate) : nearerRate interval r y = r := by
  by_cases hy : y = r
  · rw [hy, nearerRate, ite_self]
  · exact if_neg (Nat.not_lt.mpr (Nat.le_of_lt (Rate.nearer_of_within3 h hy)))

theorem nearerRate_found {r : Rate} {interval : Nat} (h : r.within3 interval = true) (x : Rate) : nearerRate interval x r = r := by
  by_cases hx : x = r
  · rw [hx, nearerRate, ite_self]
  · exact if_pos (Rate.nearer_of_within3 h hx)

/-- The choice among rates that hold one within 3% ends with it. -/
theorem foldl_nearerRate {r : Rate} {interval : Nat} (h : r.within3 interval = true) (rates : List Rate) (x : Rate)
    (hr : x = r ∨ r ∈ rates) : rates.foldl (nearerRate interval) x = r := by
  induction rates generalizing x with
  | nil => simpa using hr
  | cons y rates ih =>
    refine ih _ ?_
    rcases hr with rfl | hr
    · exact .inl (nearerRate_self h y)
    · rcases List.mem_cons.mp hr with rfl | hr
      · exact .inl (nearerRate_found h x)
      · exact .inr hr

theorem nearestRate_of_within3 {r : Rate} {interval : Nat} (h : r.within3 interval = true) : nearestRate interval = r :=
  foldl_nearerRate h listedRates .b9600 (.inr (listedRates_mem r))

/-- Settles O45: a rate within 3% is the nearest, and one the nearest is not within 3% of sets none. -/
theorem rateMatches : Obligations.RateMatches := by
  intro interval sampled s hp hawaiting
  have hexec : exec (.rateMatch interval sampled) s = .next { s with link := s.link.onMatch interval sampled } :=
    live_powered (f := fun s => { s with link := s.link.onMatch interval sampled }) hp
  refine ⟨fun r _ hwithin hsampled => ?_, fun hnone => ?_⟩
  · rw [hexec, Link.onMatch, if_pos hawaiting, nearestRate_of_within3 hwithin, hwithin, hsampled]
    rfl
  · have htest : ¬ ((nearestRate interval).within3 interval && sampled == some 0x55#8) = true := by
      rcases hnone with hnone | hsampled
      · simp [hnone _ (listedRates_mem _)]
      · simp [hsampled]
    rw [hexec, Link.onMatch, if_pos hawaiting, if_neg htest]

/-- Settles O46: each command's test holds, and it sets the link's receiver and one counter. -/
theorem linkReceiverFollowsItsLine : Obligations.LinkReceiverFollowsItsLine := by
  intro s hp
  refine ⟨fun chars bs hgathered hopen => ?_, fun chars k n hgathered hlong => ?_, fun chars bs hgathered hopen => ?_,
    fun hskipping => ?_⟩
  · have htest : (bs.isEmpty || openRequest bs) = true := by
      rcases hopen with rfl | hopen
      · rfl
      · rw [hopen, Bool.or_true]
    refine (live_powered (f := fun s => s.mlFramingError chars) hp).trans (congrArg _ ?_)
    rw [State.mlFramingError, hgathered]
    exact if_pos htest
  · refine (live_powered (f := fun s => s.lengthError chars) hp).trans (congrArg _ ?_)
    rw [State.lengthError, hgathered]
    exact if_pos (decide_eq_true hlong)
  · refine (live_powered (f := fun s => s.requestTruncated chars) hp).trans (congrArg _ ?_)
    rw [State.requestTruncated, hgathered]
    exact if_pos hopen
  · exact (live_powered (f := fun s => s.skippingEnd) hp).trans (congrArg _ (if_pos hskipping))

end Sys2Proof.Machine
end

section
/-! PROOFS. Requests over the maintenance line: how one is judged, and what each of them does but LEAVE (R146, R152, R174 to R183). -/

namespace Sys2Proof.Machine

/-! ## A request judged (R177) -/

section
variable {s : State} {chars bs p : List Byte} {k : Byte} {i : Instr}

theorem knownKind_of_command (h : (k, i) ∈ requestCommands chars) : knownKind k = true := by
  simp only [requestCommands, List.mem_cons, Prod.mk.injEq, List.not_mem_nil, or_false] at h
  rcases h with ⟨rfl, -⟩ | ⟨rfl, -⟩ | ⟨rfl, -⟩ | ⟨rfl, -⟩ | ⟨rfl, -⟩ | ⟨rfl, -⟩ | ⟨rfl, -⟩ | ⟨rfl, -⟩ <;> decide

/-- The command of each kind is its request. -/
theorem exec_command (h : (k, i) ∈ requestCommands chars) (s : State) : exec i s = live s fun s => s.request k chars := by
  simp only [requestCommands, List.mem_cons, Prod.mk.injEq, List.not_mem_nil, or_false] at h
  rcases h with ⟨rfl, rfl⟩ | ⟨rfl, rfl⟩ | ⟨rfl, rfl⟩ | ⟨rfl, rfl⟩ | ⟨rfl, rfl⟩ | ⟨rfl, rfl⟩ | ⟨rfl, rfl⟩ | ⟨rfl, rfl⟩ <;> rfl

/-- The characters that complete a request of the command's sort end its collection. -/
theorem State.requestChars_whole {starts : Byte → Bool} {crc : Bool} (hgathered : s.linkGathered chars = some bs)
    (hstarts : starts (bs.headD 0) = true) (hwhole : wholeRequest bs = true) (hcrc : crcGood bs = crc) :
    s.requestChars starts crc chars = (s.setReceiver .idle).judge bs := by
  simp only [State.requestChars, hgathered, hstarts, hwhole, hcrc]
  simp

theorem State.request_judged (hgathered : s.linkGathered chars = some (requestBytes k p)) (hlen : p.length ≤ 250) :
    s.request k chars = (s.setReceiver .idle).judge (requestBytes k p) :=
  State.requestChars_whole hgathered (by simp [requestBytes_head?]) (wholeRequest_requestBytes hlen) (crcGood_requestBytes k p)

theorem State.judge_overrun {r : Response} (hr : s.link.response = some r) :
    s.judge bs = s.countLink (fun k => { k with overruns := bump16 k.overruns }) := by
  simp [State.judge, hr]

theorem State.judge_badCrc (hr : s.link.response = none) (hbad : crcGood bs = false) :
    s.judge bs = s.countLink (fun k => { k with crcErrors := bump16 k.crcErrors }) := by
  simp [State.judge, hr, hbad]

theorem State.judge_unknown (hr : s.link.response = none) (hk : knownKind k = false) :
    s.judge (requestBytes k p) = s.respond 0xFF#8 .malformed [] .nothing := by
  simp [State.judge, hr, crcGood_requestBytes, requestBytes_head?, hk]

theorem State.judge_unfit (hr : s.link.response = none) (hk : knownKind k = true) (hp : payloadFits k p = false) :
    s.judge (requestBytes k p) = s.reply k .malformed [] := by
  simp [State.judge, hr, crcGood_requestBytes, requestBytes_head?, payloadOf_requestBytes, hk, hp]

theorem exec_judged (hmem : (k, i) ∈ requestCommands chars) (hp : s.powered = true)
    (hgathered : s.linkGathered chars = some (requestBytes k p)) (hlen : p.length ≤ 250) :
    exec i s = .next ((s.setReceiver .idle).judge (requestBytes k p)) := by
  rw [exec_command hmem, live_powered hp, State.request_judged hgathered hlen]

/-- A request with a fitting payload is taken. -/
theorem exec_taken (hmem : (k, i) ∈ requestCommands chars) (h : s.hears chars (requestBytes k p)) (hfits : payloadFits k p = true) :
    exec i s = .next ((s.setReceiver .idle).take k p) := by
  obtain ⟨hp, hr, hgathered⟩ := h
  rw [exec_judged hmem hp hgathered ((payloadFits_length hfits).trans (by decide)),
    State.judge_requestBytes (s := s.setReceiver .idle) hr (knownKind_of_command hmem) hfits]

/-- A request with an unfit payload is answered MALFORMED. -/
theorem exec_unfit (hmem : (k, i) ∈ requestCommands chars) (h : s.hears chars (requestBytes k p)) (hlen : p.length ≤ 250)
    (hunfit : payloadFits k p = false) : exec i s = .next (s.answered (k + 0x80#8) .malformed [] .nothing) := by
  obtain ⟨hp, hr, hgathered⟩ := h
  rw [exec_judged hmem hp hgathered hlen,
    State.judge_unfit (s := s.setReceiver .idle) hr (knownKind_of_command hmem) hunfit]
  rfl

end

/-! ## The reports (R180) -/

theorem couplerBytes_length (r : Replica) (n : Option Nat) : (couplerBytes r n).length = 2 := by
  unfold couplerBytes
  repeat' split
  all_goals rfl

theorem memberBytes_length (ms : List Member) : (memberBytes ms).length = 10 := rfl

theorem zoneBytes_length (z : ZoneRecord) : z.bytes.length = 46 := rfl

theorem statusReport_length (s : State) : (statusReport s).length = 127 := by
  obtain ⟨front, hlen, hreport⟩ := statusReport_ends_lost s
  rw [hreport, List.length_append, hlen]
  rfl

theorem roundReport_length (s : State) : (roundReport s).length = 176 := by
  simp only [roundReport, List.length_append, couplerBytes_length, memberBytes_length, zoneBytes_length]
  rfl

theorem membersReport_length (s : State) : (membersReport s).length = 240 := by
  rw [membersReport, List.length_flatMap, List.map_congr_left (g := fun _ => 6)]
  · rfl
  · intro n _
    split <;> rfl

/-- Settles O47: each report request fits, and its report has the length of its parts. -/
theorem reportsAnswered : Obligations.ReportsAnswered := by
  refine ⟨fun chars s h => ?_, fun chars s h => ?_, fun chars s h => ?_,
    fun s => ⟨statusReport_length s, roundReport_length s, membersReport_length s⟩⟩
  · exact exec_taken (by simp [requestCommands]) h (by decide)
  · exact exec_taken (by simp [requestCommands]) h (by decide)
  · exact exec_taken (by simp [requestCommands]) h (by decide)

/-- Settles O48: EVENTS reads from the head, and the end of its response removes what was read. -/
theorem eventsReadAndRemoved : Obligations.EventsReadAndRemoved := by
  refine ⟨fun chars n s h hmin hmax => ?_, fun straps r m s hp hr hremove => ?_, fun straps r s hp hr hnothing => ?_⟩
  · have hfits : payloadFits kindEvents [n] = true := by simp [payloadFits, hmin, hmax]
    exact exec_taken (by simp [requestCommands]) h hfits
  · rw [exec_responseComplete hp hr, hremove]
    rfl
  · rw [exec_responseComplete hp hr, hnothing]
    rfl

/-! ## Requests that are not taken -/

/-- A payload of another length than its request's fits none. -/
theorem payloadFits_of_length {k : Byte} {p : List Byte} (h : p.length ≠ (if k = kindEvents ∨ k = kindRelease then 1 else 0)) :
    payloadFits k p = false := by
  match p with
  | [] =>
    by_cases hk : k = kindEvents ∨ k = kindRelease
    · rcases hk with rfl | rfl <;> rfl
    · simp [hk] at h
  | [v] =>
    by_cases hk : k = kindEvents ∨ k = kindRelease
    · simp [hk] at h
    · obtain ⟨hevents, hrelease⟩ := not_or.mp hk
      simp [payloadFits, hevents, hrelease]
  | _ :: _ :: _ => rfl

/-- Settles O49: each step of the judging that stops a request. -/
theorem unfitRequests : Obligations.UnfitRequests := by
  refine ⟨fun chars k p s hlen h hk => ?_, fun chars bs s h hwhole hbad => ?_,
    fun chars p k i s r hlen hp hr hmem hgathered => ?_, fun chars bs s r hp hr hgathered hwhole hbad => ?_,
    fun chars p k i s hlen h hmem hlength => exec_unfit hmem h hlen (payloadFits_of_length hlength),
    fun chars n s h hrange => ?_, fun chars v s h hrange => ?_⟩
  · obtain ⟨hp, hr, hgathered⟩ := h
    refine (live_powered (f := fun s => s.requestChars (fun k => !knownKind k) true chars) hp).trans (congrArg _ ?_)
    rw [State.requestChars_whole hgathered (by simp [requestBytes_head?, hk]) (wholeRequest_requestBytes hlen)
      (crcGood_requestBytes k p), State.judge_unknown (s := s.setReceiver .idle) hr hk]
    rfl
  · obtain ⟨hp, hr, hgathered⟩ := h
    refine (live_powered (f := fun s => s.requestChars (fun _ => true) false chars) hp).trans (congrArg _ ?_)
    rw [State.requestChars_whole hgathered rfl hwhole hbad, State.judge_badCrc (s := s.setReceiver .idle) hr hbad]
    rfl
  · have hjudged : exec i s = .next ((s.setReceiver .idle).judge (requestBytes k p)) := by
      rcases hmem with hmem | ⟨hk, rfl⟩
      · exact exec_judged hmem hp hgathered hlen
      · refine (live_powered (f := fun s => s.requestChars (fun k => !knownKind k) true chars) hp).trans (congrArg _ ?_)
        exact State.requestChars_whole hgathered (by simp [requestBytes_head?, hk]) (wholeRequest_requestBytes hlen)
          (crcGood_requestBytes k p)
    rw [hjudged, State.judge_overrun (s := s.setReceiver .idle) hr]
    rfl
  · refine (live_powered (f := fun s => s.requestChars (fun _ => true) false chars) hp).trans (congrArg _ ?_)
    rw [State.requestChars_whole hgathered rfl hwhole hbad, State.judge_overrun (s := s.setReceiver .idle) hr]
    rfl
  · have hunfit : payloadFits kindEvents [n] = false := by
      simp [payloadFits, kindEvents, kindRelease]
      omega
    exact exec_unfit (by simp [requestCommands]) h (by simp) hunfit
  · have hunfit : payloadFits kindRelease [v] = false := by
      simp [payloadFits, kindEvents, kindRelease]
      omega
    exact exec_unfit (by simp [requestCommands]) h (by simp) hunfit

/-! ## ACK_TRIP, RELEASE and RESTART -/

/-- Settles O50: ACK_TRIP asks for the output alone. -/
theorem tripAcknowledged : Obligations.TripAcknowledged := by
  intro chars s h
  have hexec : exec (.ackTrip chars) s = .next (s.setReceiver .idle).takeAckTrip :=
    exec_taken (by simp [requestCommands]) h (by decide)
  refine ⟨fun hoff => ?_, fun hon => ?_⟩
  · have hoff' : ¬ (s.setReceiver .idle).trip.energised = true := by simp [State.setReceiver, hoff]
    rw [hexec, State.takeAckTrip, if_neg hoff']
    rfl
  · have hon' : (s.setReceiver .idle).trip.energised = true := hon
    rw [hexec, State.takeAckTrip, if_pos hon']
    rfl

section
variable {c : Configuration} {z : Zone} {x : ZoneEvaluator} {named : ZoneSet}

/-- A zone that RELEASE can name: latched, and quiet in all three phases (R183). -/
theorem ZoneRecord.releasable_iff (r : ZoneRecord) : r.releasable c = true ↔
    r.latch = true ∧ ∀ p, ∃ o, (r.phases.get p).operate = some o ∧ o < c.supLevel := by
  have hquiet (q : PhaseRecord) : q.quiet c = true ↔ ∃ o, q.operate = some o ∧ o < c.supLevel := by
    unfold PhaseRecord.quiet
    cases q.operate <;> simp
  simp only [ZoneRecord.releasable, Tri.all, Bool.and_eq_true, hquiet]
  constructor
  · rintro ⟨hlatch, ⟨ha, hb⟩, hc⟩
    refine ⟨hlatch, fun p => ?_⟩
    cases p with
    | a => exact ha
    | b => exact hb
    | c => exact hc
  · rintro ⟨hlatch, hphases⟩
    exact ⟨hlatch, ⟨hphases .a, hphases .b⟩, hphases .c⟩

theorem firstFailing_none (h : ∀ z, named.has z = true → (x.get z).releasable c = true) : firstFailing c x named = none := by
  refine List.find?_eq_none.mpr fun z _ => ?_
  cases hz : named.has z with
  | false => simp
  | true => simp [h z hz]

theorem firstFailing_some (hz : named.has z = true) (hfails : (x.get z).releasable c = false)
    (hbefore : ∀ y, zoneCode y < zoneCode z → named.has y = true → (x.get y).releasable c = true) :
    firstFailing c x named = some z := by
  have hpass (y : Zone) (hy : zoneCode y < zoneCode z) : (named.has y && !(x.get y).releasable c) = false := by
    cases hn : named.has y with
    | false => rfl
    | true => simp [hbefore y hy hn]
  have hstop : (named.has z && !(x.get z).releasable c) = true := by simp [hz, hfails]
  unfold firstFailing
  cases z with
  | a => simp only [List.find?_cons, hstop]
  | b => simp only [List.find?_cons, hpass .a (by decide), hstop]
  | cz => simp only [List.find?_cons, hpass .a (by decide), hpass .b (by decide), hstop]

end

/-- Settles O51: RELEASE is judged on the state and on the first named zone that fails. -/
theorem releaseJudged : Obligations.ReleaseJudged := by
  intro chars v s c h hmin hmax hc named fits
  have hfits : payloadFits kindRelease [v] = true := by simp [payloadFits, hmin, hmax]
  have hexec : exec (.release chars) s = .next ((s.setReceiver .idle).takeRelease named) :=
    exec_taken (by simp [requestCommands]) h hfits
  have hc' : (s.setReceiver .idle).life.config = some c := hc
  have hjudge (hst : s.life.state = .present) :
      (s.setReceiver .idle).takeRelease named = (s.setReceiver .idle).judgeRelease c named := by
    have hst' : (s.setReceiver .idle).life.state = .present := hst
    simp only [State.takeRelease, hc', if_pos hst']
  have hreleasable (z : Zone) : (s.zones.get z).releasable c = true ↔ fits z := ZoneRecord.releasable_iff _
  refine ⟨fun hst hall => ?_, fun z hst hz hfails hbefore => ?_, fun hst => ?_⟩
  · have hnone : firstFailing c (s.setReceiver .idle).zones named = none :=
      firstFailing_none fun z hz => (hreleasable z).mpr (hall z hz)
    rw [hexec, hjudge hst, State.judgeRelease, hnone]
    rfl
  · have hfirst : firstFailing c (s.setReceiver .idle).zones named = some z :=
      firstFailing_some hz (Bool.eq_false_iff.mpr fun hr => hfails ((hreleasable z).mp hr))
        fun y hy hn => (hreleasable y).mpr (hbefore y hy hn)
    rw [hexec, hjudge hst, State.judgeRelease, hfirst]
    rfl
  · have hst' : ¬ (s.setReceiver .idle).life.state = .present := hst
    rw [hexec]
    simp only [State.takeRelease, hc', if_neg hst']
    rfl

/-- Settles O53: RESTART asks for the output alone, and takes effect with the end of its response. -/
theorem restartJudged : Obligations.RestartJudged := by
  refine ⟨fun chars s h => ?_, fun straps r s hp hr hrestart => ?_⟩
  · have hexec : exec (.restart chars) s = .next (s.setReceiver .idle).takeRestart :=
      exec_taken (by simp [requestCommands]) h (by decide)
    refine ⟨fun hon => ?_, fun hoff => ?_⟩
    · have hon' : (s.setReceiver .idle).trip.energised = true := hon
      rw [hexec, State.takeRestart, if_pos hon']
      rfl
    · have hoff' : ¬ (s.setReceiver .idle).trip.energised = true := by simp [State.setReceiver, hoff]
      rw [hexec, State.takeRestart, if_neg hoff']
      rfl
  · rw [exec_responseComplete hp hr, hrestart]
    exact congrArg _ (State.resetBy_eq _ .commandedRestart straps)

/-! ## A break -/

/-- Every request that is taken is answered under its kind. -/
theorem State.take_answers (s : State) {k : Byte} (hk : knownKind k = true) (p : List Byte) :
    ∃ (t : State) (status : ReplyStatus) (more : List Byte) (x : OnComplete),
      s.take k p = t.respond (k + 0x80#8) status more x := by
  simp only [knownKind, List.contains_eq_mem, List.mem_cons, List.not_mem_nil, or_false, decide_eq_true_eq] at hk
  rcases hk with rfl | rfl | rfl | rfl | rfl | rfl | rfl | rfl
  · exact ⟨_, _, _, _, rfl⟩
  · exact ⟨_, _, _, _, rfl⟩
  · exact ⟨_, _, _, _, rfl⟩
  · exact ⟨_, _, _, _, rfl⟩
  · change ∃ t status more x, s.takeAckTrip = State.respond t _ status more x
    unfold State.takeAckTrip
    split <;> exact ⟨_, _, _, _, rfl⟩
  · change ∃ t status more x, s.takeRelease _ = State.respond t _ status more x
    unfold State.takeRelease State.judgeRelease
    repeat' split
    all_goals exact ⟨_, _, _, _, rfl⟩
  · change ∃ t status more x, s.takeLeave = State.respond t _ status more x
    unfold State.takeLeave
    repeat' split
    all_goals exact ⟨_, _, _, _, rfl⟩
  · change ∃ t status more x, s.takeRestart = State.respond t _ status more x
    unfold State.takeRestart
    split <;> exact ⟨_, _, _, _, rfl⟩

/-- While the line has no rate no character is collected. -/
theorem State.requestChars_unmatched {s : State} (h : s.link.rate = none) (starts : Byte → Bool) (crc : Bool) (chars : List Byte) :
    s.requestChars starts crc chars = s := by
  simp [State.requestChars, State.linkGathered, h]

theorem live_of_fixed {s : State} {f : State → State} (h : f s = s) : live s f = .next s := by
  rw [live, h, ite_self]

theorem Link.onBreak_eq (k : Link) : k.onBreak =
    { rate := none, awaitingMatch := true, receiver := .idle, response := none,
      counters := { k.counters with abandonedResponses :=
        if k.response.isSome then bump16 k.counters.abandonedResponses else k.counters.abandonedResponses } } := by
  unfold Link.onBreak
  cases k.response <;> rfl

/-- Settles O44: what a break leaves of the link, and that HOLD answers as any state does. -/
theorem breakAbandons : Obligations.BreakAbandons := by
  refine ⟨fun s hp => ?_, fun s chars straps i hrate hresponse hi => ?_, fun s t mv hexec => ?_,
    fun s chars p k i hmem hlen h _ => ?_, fun s chars h _ => ?_⟩
  · exact ⟨{ s with link := s.link.onBreak }, live_powered (f := fun s => { s with link := s.link.onBreak }) hp, rfl, Link.onBreak_eq _⟩
  · rw [List.mem_append, List.mem_map] at hi
    rcases hi with ⟨⟨k, i'⟩, hmem, rfl⟩ | hi
    · rw [exec_command hmem, live_of_fixed (State.requestChars_unmatched hrate _ _ _)]
    · simp only [List.mem_cons, List.not_mem_nil, or_false] at hi
      rcases hi with rfl | rfl | rfl
      · exact live_of_fixed (f := fun s => s.requestChars _ _ chars) (State.requestChars_unmatched hrate _ _ _)
      · exact live_of_fixed (f := fun s => s.requestChars _ _ chars) (State.requestChars_unmatched hrate _ _ _)
      · exact live_of_fixed (f := fun s => s.responseComplete straps) (by simp [State.responseComplete, hresponse])
  · cases hp : s.powered with
    | true =>
      have hnext : exec (.supplyLow mv) s = .next (s.supplyLow mv) := live_powered (f := fun s => s.supplyLow mv) hp
      obtain rfl : s.supplyLow mv = t := by simpa using hnext.symm.trans hexec
      simp
    | false =>
      have hnext : exec (.supplyLow mv) s = .next s := live_unpowered (f := fun s => s.supplyLow mv) hp
      obtain rfl : s = t := by simpa using hnext.symm.trans hexec
      rfl
  · by_cases hfits : payloadFits k p = true
    · obtain ⟨t, status, more, x, htaken⟩ := (s.setReceiver .idle).take_answers (knownKind_of_command hmem) p
      rw [exec_taken hmem h hfits, htaken]
      exact ⟨_, _, rfl, rfl, rfl, rfl⟩
    · rw [exec_unfit hmem h hlen (Bool.eq_false_iff.mpr hfits)]
      exact ⟨_, _, rfl, rfl, rfl, rfl⟩
  · exact exec_taken (by simp [requestCommands]) h (by decide)

end Sys2Proof.Machine
end

section
/-! PROOFS. LEAVE and the end of LEAVING (R48, R151, R165 to R167). -/

namespace Sys2Proof.Machine

section
variable {s : State} {l : Lane} {chars : List Byte}

/-! ## An accepted LEAVE -/

/-- The station in LEAVING, before its LEAVE frames are offered to the queues (R165). -/
def State.departing (s : State) : State :=
  ({ s with
    life := { s.life with
      leaveRecord := some { round := s.timer.round, reason := leaveCommanded, positions := s.acquisition.positions }
      leaveReports := 0
      leaveTransmitted := 0
      joinCount := 0
      conflictCount := 0
      clashCount := 0 } } : State).transition .leaving .commanded []

theorem State.acceptLeave_eq (s : State) : s.acceptLeave =
    (s.departing.enqueueLeave .one (s.leaveFrame leaveCommanded)).enqueueLeave .two (s.leaveFrame leaveCommanded) := rfl

theorem State.departing_life (s : State) : s.departing.life = { s.life with
    state := .leaving
    pendingRelease := s.departing.life.pendingRelease
    leaveRecord := some { round := s.timer.round, reason := leaveCommanded, positions := s.acquisition.positions }
    leaveReports := 0
    leaveTransmitted := 0
    joinCount := 0
    conflictCount := 0
    clashCount := 0 } := by
  rw [State.departing, State.transition, State.enter_life]

theorem State.departing_lane (s : State) (l : Lane) : s.departing.lane l = s.lane l := State.lane_eq _ _ (by simp [State.departing]) l

theorem State.enqueueLeave_room (h : (s.lane l).queue.length < 8) (f : QueuedFrame) :
    s.enqueueLeave l f = s.setLane l ((s.lane l).joined s.dress f) := by
  rw [State.enqueueLeave_eq, if_pos h, LaneState.offered, if_pos h]

/-- A LEAVE with room in both queues joins each of them, and nothing is reported. -/
theorem State.acceptLeave_room (hone : s.ring.one.queue.length < 8) (htwo : s.ring.two.queue.length < 8) :
    s.acceptLeave = (s.departing.setLane .one
      ((s.lane .one).joined s.departing.dress (s.leaveFrame leaveCommanded))).setLane .two
      ((s.lane .two).joined s.departing.dress (s.leaveFrame leaveCommanded)) := by
  have hone' : (s.departing.lane .one).queue.length < 8 := by rw [State.departing_lane]; exact hone
  have htwo' (x : LaneState) : (s.departing.setLane .one x).lane .two = s.lane .two := s.departing_lane .two
  rw [State.acceptLeave_eq, State.enqueueLeave_room hone', State.enqueueLeave_room (by rw [htwo']; exact htwo), htwo',
    State.departing_lane, State.setLane_dress]

/-- A LEAVE dropped at a full queue is reported at once. -/
theorem State.enqueueLeave_full (h : 8 ≤ (s.lane l).queue.length) (f : QueuedFrame) :
    s.enqueueLeave l f = (s.setLane l (s.lane l).dropped).report false := by
  rw [State.enqueueLeave_eq, if_neg (Nat.not_lt.mpr h), LaneState.offered, if_neg (Nat.not_lt.mpr h)]

theorem State.enqueueLeave_full_queue (h : 8 ≤ (s.lane l).queue.length) (f : QueuedFrame) (m : Lane) :
    ((s.enqueueLeave l f).lane m).queue = (s.lane m).queue := by
  rw [State.enqueueLeave_full h, State.lane_eq _ (s.setLane l (s.lane l).dropped) (by simp), State.lane_setLane]
  split
  · rename_i hm; rw [hm]; simp
  · rfl

/-- A LEAVE accepted with both queues full ends LEAVING at once (R48, R167). -/
theorem State.acceptLeave_full (hone : 8 ≤ s.ring.one.queue.length) (htwo : 8 ≤ s.ring.two.queue.length) :
    s.acceptLeave.life.state = .out ∧ s.acceptLeave.life.leaveTransmitted = 0 ∧
    ∀ l, (s.acceptLeave.lane l).queue = (s.lane l).queue := by
  have hone' : 8 ≤ (s.departing.lane .one).queue.length := by rw [State.departing_lane]; exact hone
  have hlife := s.departing_life
  obtain ⟨hreports, htransmitted, hstate⟩ := State.report_leaving
    (s := s.departing.setLane .one (s.departing.lane .one).dropped) (congrArg LifeCycle.state hlife) false
  have hzero : (s.departing.setLane .one (s.departing.lane .one).dropped).life.leaveReports = 0 :=
    congrArg LifeCycle.leaveReports hlife
  have hnone : (s.departing.setLane .one (s.departing.lane .one).dropped).life.leaveTransmitted = 0 :=
    congrArg LifeCycle.leaveTransmitted hlife
  rw [← State.enqueueLeave_full hone' (s.leaveFrame leaveCommanded)] at hreports htransmitted hstate
  rw [hzero] at hreports hstate
  rw [hnone] at htransmitted
  have hqueue := State.enqueueLeave_full_queue hone' (s.leaveFrame leaveCommanded)
  have htwo' : 8 ≤ ((s.departing.enqueueLeave .one (s.leaveFrame leaveCommanded)).lane .two).queue.length := by
    rw [hqueue, State.departing_lane]; exact htwo
  rw [State.acceptLeave_eq]
  generalize s.departing.enqueueLeave .one (s.leaveFrame leaveCommanded) = u at *
  obtain ⟨-, htransmitted', hstate'⟩ := State.report_leaving (s := u.setLane .two (u.lane .two).dropped) hstate false
  rw [← State.enqueueLeave_full htwo' (s.leaveFrame leaveCommanded)] at htransmitted' hstate'
  refine ⟨?_, ?_, fun l => ?_⟩
  · rw [hstate']
    exact if_pos (congrArg (bump 2) hreports)
  · rw [htransmitted']
    exact htransmitted
  · rw [State.enqueueLeave_full_queue htwo', hqueue, State.departing_lane]

/-! ## The LEAVE request -/

/-- LEAVE is accepted in this state (R151, R165). -/
def State.MayLeave (s : State) : Prop := s.life.state = .joining ∨
  s.life.state = .present ∧ s.trip.energised = false ∧ s.trip.bfTimer = .idle ∧ s.trip.bfFlag = false

theorem State.takeLeave_accepts (h : s.MayLeave) : s.takeLeave = s.acceptLeave.reply kindLeave .done [] := by
  rcases h with h | ⟨h, hoff, hidle, hflag⟩
  · exact if_pos h
  · have hadmits : s.trip.admitsLeave = true := by simp [TripUnit.admitsLeave, hoff, hidle, hflag]
    rw [State.takeLeave, if_neg (by rw [h]; decide), if_pos h, if_pos hadmits]

theorem exec_leave (h : s.hears chars (requestBytes kindLeave [])) :
    exec (.leave chars) s = .next (s.setReceiver .idle).takeLeave := exec_taken (by simp [requestCommands]) h (by decide)

theorem State.request_leave (h : s.hears chars (requestBytes kindLeave [])) :
    s.request kindLeave chars = (s.setReceiver .idle).takeLeave := State.request_requestBytes h (by decide) (by decide)

theorem LaneState.joined_length (dress : QueuedFrame → QueuedFrame) (f : QueuedFrame) (x : LaneState) :
    (x.joined dress f).queue.length = x.queue.length + 1 := by
  rcases LaneState.kicked_queue dress { x with queue := x.queue ++ [f] } with hq | ⟨g, rest, hx, hq⟩
  · rw [LaneState.joined, hq, List.length_append]
    rfl
  · have hlength := congrArg List.length hx
    rw [List.length_append] at hlength
    rw [LaneState.joined, hq, List.length_cons]
    exact hlength.symm

/-- A LEAVE that found room is in its queue, one frame longer. -/
theorem State.acceptLeave_queued (hone : s.ring.one.queue.length < 8) (htwo : s.ring.two.queue.length < 8) (l : Lane) :
    (s.acceptLeave.lane l).queue.length = (s.lane l).queue.length + 1 ∧
    ∃ f ∈ (s.acceptLeave.lane l).queue, f.isOwnLeave = true ∧ f.bytes.getD 7 0 = leaveCommanded := by
  have hlane : s.acceptLeave.lane l = (s.lane l).joined s.departing.dress (s.leaveFrame leaveCommanded) := by
    rw [State.acceptLeave_room hone htwo]
    cases l <;> rfl
  rw [hlane]
  refine ⟨LaneState.joined_length _ _ _, ?_⟩
  rcases LaneState.joined_mem s.departing.dress (s.leaveFrame leaveCommanded) (s.lane l) with hmem | hmem
  · exact ⟨_, hmem, rfl, rfl⟩
  · exact ⟨_, hmem, State.dress_leaveFrame s.departing leaveCommanded⟩

theorem exec_leavingEnd {finish : LeaveFinish} (hp : s.powered = true) (hst : s.life.state ≠ .out)
    (hends : (s.finishLeave finish).life.state = .out) : exec (.leavingEnd finish) s = .next (s.finishLeave finish) := by
  have htest : (s.life.state != .out && (s.finishLeave finish).life.state == .out) = true := by simp [hst, hends]
  exact (live_powered hp).trans (by rw [if_pos htest])

end

/-- Settles O43: the second report, by the last transmission or by two drops, is the one that ends LEAVING. -/
theorem leavingEnds : Obligations.LeavingEnds := by
  refine ⟨fun l s f rest hp hst hsending hq hown hone => ?_, fun chars s h hst hfull₁ hfull₂ => ?_⟩
  · have hfinish : s.finishLeave (.transmission l) = (s.headLeft l rest).report true :=
      (State.transmissionComplete_eq hsending hq).trans (if_pos hown)
    obtain ⟨hreports, htransmitted, hstate⟩ := State.report_leaving (s := s.headLeft l rest) hst true
    have htwo : bump 2 (s.headLeft l rest).life.leaveReports = 2 := congrArg (bump 2) hone
    rw [if_pos htwo] at hstate
    refine ⟨_, exec_leavingEnd hp (by rw [hst]; decide) (by rw [hfinish, hstate]), ?_⟩
    rw [hfinish]
    refine ⟨hstate, hreports.trans htwo, htransmitted, ?_, by simp; rfl, by simp; rfl, by simp; rfl⟩
    rw [State.lane_eq _ (s.headLeft l rest) (by simp), State.headLeft_eq, State.lane_setLane_same]
  · have hst' : (s.setReceiver .idle).life.state = .joining := hst
    have hfinish : s.finishLeave (.request chars) = (s.setReceiver .idle).acceptLeave.reply kindLeave .done [] :=
      (State.request_leave h).trans (State.takeLeave_accepts (.inl hst'))
    obtain ⟨hstate, htransmitted, hqueues⟩ := State.acceptLeave_full (s := s.setReceiver .idle) hfull₁ hfull₂
    obtain ⟨-, -, -, htimer, -, htable, -, hzones, -⟩ := (s.setReceiver .idle).acceptLeave_frame
    generalize (s.setReceiver .idle).acceptLeave = u at *
    refine ⟨_, exec_leavingEnd h.1 (by rw [hst]; decide) (by rw [hfinish]; exact hstate), ?_⟩
    rw [hfinish]
    exact ⟨hstate, htransmitted, hqueues, htimer, htable, hzones⟩

/-- Settles O52: LEAVE is judged on the state and the Trip Unit, and an accepted one queues its frames where there is room. -/
theorem leaveJudged : Obligations.LeaveJudged := by
  intro chars s h
  have hexec := exec_leave h
  refine ⟨fun hmay hone htwo => ?_, fun hst hbusy => ?_, fun hst => ?_⟩
  · rw [State.takeLeave_accepts (s := s.setReceiver .idle) hmay] at hexec
    have hqueued := State.acceptLeave_queued (s := s.setReceiver .idle) hone htwo
    have hroom := State.acceptLeave_room (s := s.setReceiver .idle) hone htwo
    have hlife : (s.setReceiver .idle).acceptLeave.life = (s.setReceiver .idle).departing.life := by rw [hroom]; rfl
    have htrip : (s.setReceiver .idle).acceptLeave.trip = tripExit s.life.state .leaving s.trip := by
      rw [hroom]
      exact State.transition_trip _ _ .commanded []
    have hcontributing : s.life.state.contributing = true := by
      rcases hmay with hj | ⟨hpresent, -⟩
      · rw [hj]; rfl
      · rw [hpresent]; rfl
    have hbf := tripExit_bf s.life.state .leaving s.trip
    rw [if_pos ⟨hcontributing, by decide⟩, ← htrip] at hbf
    simp only [Prod.mk.injEq] at hbf
    obtain ⟨hidle, -, hflag⟩ := hbf
    rw [State.departing_life] at hlife
    obtain ⟨-, -, -, htimer, hacquisition, htable, hreplica, hzones, hsupply, -⟩ := (s.setReceiver .idle).acceptLeave_frame
    clear hroom htrip
    generalize (s.setReceiver .idle).acceptLeave = u at *
    refine ⟨_, hexec, congrArg LifeCycle.state hlife, congrArg LifeCycle.leaveRecord hlife, congrArg LifeCycle.leaveReports hlife,
      congrArg LifeCycle.leaveTransmitted hlife, congrArg LifeCycle.joinCount hlife, congrArg LifeCycle.conflictCount hlife,
      congrArg LifeCycle.clashCount hlife, hidle, hflag, hqueued, ⟨_, rfl, rfl⟩, ?_⟩
    exact ⟨htimer, hacquisition, htable, hreplica, hzones, hsupply⟩
  · have hst' : (s.setReceiver .idle).life.state = .present := hst
    have hnot : ¬ (s.setReceiver .idle).trip.admitsLeave = true := by
      rcases hbusy with h | h | h <;> simp [TripUnit.admitsLeave, State.setReceiver, h]
    rw [hexec, State.takeLeave, if_neg (by rw [hst']; decide), if_pos hst', if_neg hnot]
    rfl
  · have hjoining : ¬ (s.setReceiver .idle).life.state = .joining := fun h => by
      rw [show s.life.state = .joining from h] at hst
      cases hst
    have hpresent : ¬ (s.setReceiver .idle).life.state = .present := fun h => by
      rw [show s.life.state = .present from h] at hst
      cases hst
    rw [hexec, State.takeLeave, if_neg hjoining, if_neg hpresent]
    rfl

end Sys2Proof.Machine
end
